-- ==== Sys2Proof/Word.lean ====
section
/-!
DEFINITION. The words of the model: bytes of a Lift Line frame (R151), the 16-bit values of the
configuration record (R170), and the time a timer has left.
-/

namespace Sys2Proof

/-- One byte of a frame on the Lift Line (R150, R151). -/
abbrev Byte := BitVec 8

/-- One value of the configuration record or of a frame's 16-bit field (R154, R170). -/
abbrev Word := BitVec 16

/-- A timer: `none` while it is idle or stopped, else the milliseconds it has left. -/
abbrev Timer := Option Nat

end Sys2Proof
end

