-- ==== Sys2Proof/Syntax.lean ====
section
/-!
DEFINITION. The commands that reach the LC24, one constructor of `Instr` per row of
spec/opcode_table.json, and the operands they carry.
-/

namespace Sys2Proof

/-- The four kinds of reset (R183). -/
inductive ResetKind where
  | power | supply | pin | service
  deriving DecidableEq, Repr

/-- The two motion buttons of the pendant (R79). -/
inductive MotionButton where
  | raise | lower
  deriving DecidableEq, Repr

/-- The two other buttons of the pendant (R79). -/
inductive SideButton where
  | ack | mark
  deriving DecidableEq, Repr

/-- The blocks that take a position sample (R97). -/
inductive SampleTaker where
  | follower | motionChecks | phaseRules
  deriving DecidableEq, Repr

/-- The orders in which the three takers of a position sample may take it (R97: "in either order"). -/
inductive TakerOrder where
  | followerChecksRules | followerRulesChecks | checksFollowerRules
  | checksRulesFollower | rulesFollowerChecks | rulesChecksFollower
  deriving DecidableEq, Repr

/-- How a position sample and a "brake set" that comes about at it reach the motion checks (R134, R135;
log 29): "brake set" first; or the sample first, the stall check reading the demand last handed at its
own place among the takers, or the one handed at the sample before. -/
inductive BrakeOrder where
  | brakeSetFirst | sampleFirst | sampleFirstEarlierDemand
  deriving DecidableEq, Repr

/-- What the rules leave open about the order of work at one position sample (log 4): the order of
the takers (R97), how many of them take the sample before a SENSOR_INVALID report is taken (R96;
log 31), which of the stall and wrong-direction checks is made first (R133, R135), and how sample and
"brake set" reach them (R134, R135). -/
structure SampleOrder where
  takers : TakerOrder
  takersBeforeReport : Fin 4
  stallFirst : Bool
  brake : BrakeOrder
  deriving DecidableEq, Repr

/-- The orders in which the takers of a load sample may take it (R99): the contact qualifier always
before the start progress. -/
inductive LoadOrder where
  | contactOverloadStart | overloadContactStart | contactStartOverload
  deriving DecidableEq, Repr

/-- What is sampled at the release of a reset: the seven straps (R169), the eight guard lines (R140,
bit i = Gi, 1 = high) and the five pendant lines (R79). -/
structure SampledInputs where
  station : BitVec 6
  setupStrap : Bool
  guards : BitVec 8
  raise : Bool
  lower : Bool
  ack : Bool
  mark : Bool
  present : Bool
  deriving DecidableEq, Repr

/-- The commands, one constructor per row of spec/opcode_table.json. -/
inductive Instr where
  /-- RESET (R184): release of a POWER, SUPPLY or PIN reset: the supply rises to its working level, or
  the reset line is released (R183). -/
  | reset (kind : ResetKind) (inputs : SampledInputs)
  /-- SILENCE_SCAN_EXPIRY (R12). -/
  | silenceScanExpiry
  /-- CONTROL_PERIOD_EXPIRY (R89). -/
  | controlPeriodExpiry
  /-- POSITION_COMPLETION (R94): the eighteen bits in the order they are clocked in, first bit most
  significant. -/
  | positionCompletion (word : BitVec 18) (order : SampleOrder)
  /-- LOAD_COMPLETION (R98): the twelve bits, most significant first. -/
  | loadCompletion (word : BitVec 12) (order : LoadOrder)
  /-- STATUS_TIMER_EXPIRY (R158). -/
  | statusTimerExpiry
  /-- DWELL_EXPIRY (R109). -/
  | dwellExpiry
  /-- SETTLE_EXPIRY (R114). -/
  | settleExpiry
  /-- DEMAND_TIMER_EXPIRY (R116). -/
  | demandTimerExpiry
  /-- BLINK_TIMER_EXPIRY (R87). -/
  | blinkTimerExpiry
  /-- WINDOW_TIMER_EXPIRY (R177). -/
  | windowTimerExpiry
  /-- COMMIT_COMPLETION (R180). -/
  | commitCompletion
  /-- GUARD_ACTIVE_EDGE (R141): the line whose taken change makes it active. -/
  | guardActiveEdge (line : Fin 8)
  /-- GUARD_INACTIVE_EDGE (R141): the line whose taken change makes it inactive. -/
  | guardInactiveEdge (line : Fin 8)
  /-- MOTION_BUTTON_PRESS (R81). -/
  | motionButtonPress (button : MotionButton)
  /-- DEAD_MAN_RELEASE (R82). -/
  | deadManRelease (button : MotionButton)
  /-- ACK_BUTTON_PRESS (R85). -/
  | ackButtonPress
  /-- MARK_BUTTON_PRESS (R85). -/
  | markButtonPress
  /-- ACK_OR_MARK_RELEASE (R85). -/
  | ackOrMarkRelease (button : SideButton)
  /-- PENDANT_REMOVED (R84). -/
  | pendantRemoved
  /-- PENDANT_PLUGGED (R84). -/
  | pendantPlugged
  /-- FRAME_RECEIVED (R163): the bytes of the frame as they stood on the line, whether a stop cell
  was dominant (R150), and whether its first start cell came after an idle line. -/
  | frameReceived (bytes : List Byte) (framingError : Bool) (startedAtIdle : Bool)
  /-- STATUS (R7): the oldest frame of the receive queue goes to the Peer Table. -/
  | status
  /-- RAISE (R70). -/
  | raise
  /-- LOWER (R71). -/
  | lower
  /-- HOLD (R73). -/
  | hold
  /-- ESTOP (R76). -/
  | estop
  /-- ACK (R124). -/
  | ack
  /-- SET_MARK (R74). -/
  | setMark
  /-- CLEAR_MARK (R75). -/
  | clearMark
  /-- CONFIG_WRITE (R175), any field id but 21. -/
  | configWrite
  /-- TOL_REWIND (R175): a CONFIG_WRITE with field id 21. -/
  | tolRewind
  /-- TOL_WRITE (R176). -/
  | tolWrite
  /-- COMMIT (R179). -/
  | commit
  /-- RESTART (R181), with what the reset it makes will sample. -/
  | restart (inputs : SampledInputs)
  /-- CLOSE_SETUP (R182). -/
  | closeSetup
  /-- ATTEMPT (R157). -/
  | attempt
  /-- ATTEMPT_SUCCEEDS (R159). -/
  | attemptSucceeds
  /-- TRANSMIT_ERROR (R160). -/
  | transmitError
  /-- LOST_ARBITRATION (R155). -/
  | lostArbitration
  /-- RESET_APPLIED (R118): the supply falls below its working level, or the reset line goes active. -/
  | resetApplied
  /-- COMMAND_KIND_UNDEFINED (R68). -/
  | commandKindUndefined
  deriving DecidableEq, Repr

end Sys2Proof
end

