-- ==== Sys2Proof/Decode.lean ====
section
/-!
DEFINITION. Decoding of the opcode table's words. No row of spec/opcode_table.json gives bits: the
commands are events, not words. The frames of the Lift Line, which are the machine's data, are
decoded and encoded in Machine/Frames.lean.
-/

namespace Sys2Proof

/-- The command a word of the opcode table spells: none, since no row gives bits. -/
def decodeTableWord (_nbits _w : Nat) : Option Instr := none

end Sys2Proof
end

