-- ==== Sys2Proof/Config.lean ====
section
/-!
DEFINITION. The free values: constants with no body, so that nothing can be proved of what they are.
-/

namespace Sys2Proof

/-- Which of several timers that run out in the same millisecond gives its expiry first, as a
number to be taken modulo how many they are (log 5; DESIGN CHOICE to leave it free: 00_scope.md
section 5 fixes no order between the events of different blocks). -/
opaque Config.firstDue : Nat → Nat

end Sys2Proof
end

