-- ==== Sys2Proof/Machine/Params.lean ====
section
/-!
DEFINITION. The fixed times of the LC24's timers in milliseconds, and the bounds of its counters and
queues, each with the rule that states it.
-/

namespace Sys2Proof.Machine

/-- The silence scan period (R12). -/
abbrev silenceScanMs : Nat := 20

/-- The control period (R89). -/
abbrev controlPeriodMs : Nat := 10

/-- The status period (R158). -/
abbrev statusPeriodMs : Nat := 20

/-- The brake release dwell (R107, R108). -/
abbrev dwellMs : Nat := 150

/-- The brake settle time (R107, R114). -/
abbrev settleMs : Nat := 100

/-- The demand timeout (R107, R110, R116). -/
abbrev demandTimeoutMs : Nat := 30

/-- The half period of the blinking MOVING lamp (R87). -/
abbrev blinkMs : Nat := 250

/-- The setup window (R177): 120 s. -/
abbrev windowMs : Nat := 120000

/-- The non-volatile write (R179). -/
abbrev writeMs : Nat := 40

/-- The highest height, in 0.1 mm (00_scope.md section 5, R95). -/
abbrev maxHeight : Nat := 24000

/-- The highest load, in 0.1 kN (00_scope.md section 5, R98). -/
abbrev maxLoad : Nat := 4000

/-- The highest duty, per mille (R39, R110). -/
abbrev maxDuty : Nat := 1000

/-- The arrival band (R32). -/
abbrev arrivalBand : Nat := 2

/-- Where the overrun and invalid counts stop (R90, R96). -/
abbrev badSampleLimit : Nat := 3

/-- Load samples that must agree before CONTACT changes (R101). -/
abbrev contactSamples : Nat := 4

/-- Samples without movement that make a stall (R134). -/
abbrev stallSamples : Nat := 150

/-- Movement that shows a column is not stalled (R133). -/
abbrev stallMovement : Nat := 2

/-- Movement against the watched direction that is reported (R135). -/
abbrev wrongWay : Nat := 4

/-- Consecutive transmit errors that disable the transmitter (R160). -/
abbrev maxTransmitErrors : Nat := 8

/-- How many resets can be applied at once: one by the supply and one by the reset line (R183). -/
abbrev resetSources : Nat := 2

/-- Commands the transmit command queue holds (R162). -/
abbrev txQueueSize : Nat := 4

/-- Frames the receive queue holds (R166). -/
abbrev rxQueueSize : Nat := 8

end Sys2Proof.Machine
end

