-- ==== Sys2Proof/Machine/State.lean ====
section
/-!
DEFINITION. The state of the LC24, block by block as the manual's chapters hold it, the two reason
types of a step that stops, and the state after reset.
-/

namespace Sys2Proof.Machine

/-- The eleven column phases (00_scope.md section 3, R42). -/
inductive Phase where
  | init | unconfigured | listen | ready | seek | seated | lift | hold | lower | retract | halted
  deriving DecidableEq, Repr

/-- The causes 1 to 26 of a halt, in code order (R119, R120). -/
inductive Cause where
  | estopInput | estopCommand | overtravel | bottomLoaded | nutWear | area | driveFault | auxA | auxB
  | overload | noContact | loadLost | stall | wrongDirection | drift | spread | sensorStale
  | sensorInvalid | driveStarved | peerSilent | peerRestarted | duplicateStation | positionClash
  | configMismatch | lineFault | receiveOverrun
  deriving DecidableEq, Repr

/-- Which rail of the lifting line a column stands at. -/
inductive Side where
  | left | right
  deriving DecidableEq, Repr

/-- The presence of a Peer Table entry (R1). -/
inductive Presence where
  | present | lost
  deriving DecidableEq, Repr

/-- What a column reports about its own halt (R2, R122): NONE, LOCAL with its cause, PEER with its
origin. -/
inductive HaltReport where
  | none
  | localCause (cause : Cause)
  | peerOrigin (station : Nat)
  deriving DecidableEq, Repr

/-- The two directions of the screw (R106). -/
inductive Direction where
  | up | down
  deriving DecidableEq, Repr

/-- The drive states (R107). -/
inductive DriveState where
  | stopped | dwell | running
  deriving DecidableEq, Repr

/-- Which transfer of the sensor port is in flight (R92). -/
inductive PortState where
  | idle | position | load
  deriving DecidableEq, Repr

/-- The seven group commands (00_scope.md section 3, R154). -/
inductive CommandKind where
  | raise | lower | hold | estop | ack | setMark | clearMark
  deriving DecidableEq, Repr

/-- The result codes of the Configuration Store (R153, R174). -/
inductive ConfigResult where
  | none | accepted | refusedClosed | refusedProtected | refusedRange | busy | committed
  | refusedInconsistent
  deriving DecidableEq, Repr

/-- One entry of the Peer Table (R1). -/
structure PeerEntry where
  station : Nat
  line : Nat
  side : Side
  presence : Presence
  silence : Nat
  phase : Phase
  height : Nat
  contact : Bool
  atTarget : Bool
  halt : HaltReport
  epoch : BitVec 4
  digestMatch : Bool
  deriving DecidableEq, Repr

/-- The payload of a STATUS frame, field by field as it stands on the line (R153). -/
structure StatusFields where
  line : BitVec 5
  side : Bool
  phase : BitVec 4
  contact : Bool
  atTarget : Bool
  markSet : Bool
  atMark : Bool
  setupOpen : Bool
  height : BitVec 15
  load : BitVec 12
  haltKind : BitVec 2
  causeOrOrigin : BitVec 6
  epoch : BitVec 4
  digest : Word
  resetCause : BitVec 2
  configResult : BitVec 3
  deriving DecidableEq, Repr

/-- A frame waiting in the receive queue (R166), with what its taker reads of it (R153, R154). -/
inductive RxFrame where
  | status (station : BitVec 6) (fields : StatusFields)
  | command (station : BitVec 6) (kind : BitVec 4) (arg : Word)
  | configWrite (id : BitVec 8) (value : Word)
  | tolWrite (value : Word)
  | commit
  | restart
  | closeSetup
  deriving DecidableEq, Repr

/-- A command in the transmit command queue (R162), and whether an attempt is sending it. -/
structure TxCommand where
  kind : CommandKind
  arg : Word
  sending : Bool
  deriving DecidableEq, Repr

/-- The transmitter (R156). SENDING holds the bytes of the frame, fixed at its start (R157); for a
status frame it also holds whether the slot was filled again since (R159). -/
inductive TxState where
  | idle
  | waiting
  | sendingCommand (frame : List Byte)
  | sendingStatus (frame : List Byte) (refilled : Bool)
  | disabled
  deriving DecidableEq, Repr

/-- The twenty configuration fields 1 to 20 in id order (R170), each holding an `α`: a 16-bit value
in the record, a value or absent in the staging copy, a range in the range table. -/
structure ConfigFields (α : Type) where
  group : α
  line : α
  side : α
  linesLo : α
  linesHi : α
  vNom : α
  vCreep : α
  rampStep : α
  vDriveMax : α
  hWork : α
  hRest : α
  posZero : α
  posScale : α
  loadZero : α
  loadSpan : α
  guardEnable : α
  guardPolarity : α
  ovlQualify : α
  silenceLimit : α
  protect : α
  deriving DecidableEq, Repr

/-- The six tolerances, slots 0 to 5 in order (R170). -/
structure Tolerances (α : Type) where
  aLocal : α
  aGroup : α
  wContact : α
  wCapacity : α
  seekMax : α
  driftLimit : α
  deriving DecidableEq, Repr

/-- The 26 values of a configuration record (R170); also the active configuration (R171). -/
structure ConfigValues where
  fields : ConfigFields Word
  tol : Tolerances Word
  deriving DecidableEq, Repr

/-- The non-volatile record (R170): erased as the maker leaves it, written with its digest, or broken
by a write that a reset ended (R180; log 7). -/
inductive NvRecord where
  | erased
  | written (values : ConfigValues) (digest : Word)
  | broken
  deriving DecidableEq, Repr

/-- The staging copy (R173): a value or absent for each field and slot. -/
structure Staging where
  fields : ConfigFields (Option Word)
  tol : Tolerances (Option Word)
  deriving DecidableEq, Repr

/-- The commit state (R179, R180), with the values being written while it is IN_FLIGHT. -/
inductive CommitState where
  | idle
  | inFlight (values : ConfigValues)
  deriving DecidableEq, Repr

/-- What the Level Follower hands the Drive Output (R22, R39). -/
structure Demand where
  speed : Nat
  direction : Option Direction
  duty : Nat
  deriving DecidableEq, Repr

/-- The Phase Controller's state (R42, R119, R123). -/
structure PhaseBlock where
  phase : Phase
  target : Option Nat
  mark : Option Nat
  atTarget : Bool
  atMark : Bool
  seekStart : Option Nat
  seatedCount : Nat
  positionSeen : Bool
  loadSeen : Bool
  epoch : BitVec 4
  causes : List Cause
  origin : Option Nat
  deriving DecidableEq, Repr

/-- The Level Follower's state (R37, R41), with the stall reference and counter it holds for the
stall check (R132). -/
structure FollowerBlock where
  prevDemand : Nat
  lastDemand : Demand
  stallRef : Option Nat
  stallCounter : Nat
  deriving DecidableEq, Repr

/-- The motion checks' state (R132, R135, R136). -/
structure CheckBlock where
  stallArmed : Bool
  watched : Option Direction
  extreme : Option Nat
  driftRef : Option Nat
  deriving DecidableEq, Repr

/-- The Sensor Port and Scaling block's state (chapter 5's table, R105). -/
structure SensorBlock where
  controlTimer : Nat
  positionRequest : Bool
  loadRequest : Bool
  port : PortState
  overrunCount : Nat
  invalidCount : Nat
  height : Option Nat
  load : Option Nat
  lastSaturated : Bool
  contact : Bool
  contactRun : Nat
  overloadRun : Nat
  deriving DecidableEq, Repr

/-- The Drive Output's state and its four lines (R106, R107). -/
structure DriveBlock where
  state : DriveState
  duty : Nat
  direction : Direction
  runEnable : Bool
  brakeReleased : Bool
  dwellTimer : Timer
  settleTimer : Timer
  demandTimer : Timer
  deriving DecidableEq, Repr

/-- The Guard Unit's state: filtered levels (R140, bit i = Gi, 1 = high) and pending latches
(R141). -/
structure GuardBlock where
  levels : BitVec 8
  pending : BitVec 8
  deriving DecidableEq, Repr

/-- The Pendant Interface's state and the three lamps (R79, R81, R83, R86, R87). -/
structure PendantBlock where
  raise : Bool
  lower : Bool
  ack : Bool
  mark : Bool
  present : Bool
  held : Option MotionButton
  lockout : Bool
  lampReady : Bool
  lampMoving : Bool
  lampFault : Bool
  blinkTimer : Timer
  deriving DecidableEq, Repr

/-- The Line Interface's state (R156 to R168). -/
structure LineBlock where
  tx : TxState
  errors : Nat
  queue : List TxCommand
  slot : Bool
  statusTimer : Nat
  rxQueue : List RxFrame
  rxWaitsIdle : Bool
  deriving DecidableEq, Repr

/-- The Configuration Store's state (chapter 10's table, R185). -/
structure StoreBlock where
  station : BitVec 6
  setupStrap : Bool
  resetCause : ResetKind
  record : NvRecord
  active : Option ConfigValues
  ownDigest : Option Word
  staging : Staging
  tolPointer : Nat
  passComplete : Bool
  windowOpen : Bool
  windowTimer : Timer
  commit : CommitState
  writeTimer : Timer
  result : ConfigResult
  deriving DecidableEq, Repr

/-- The whole part. `resetsApplied`: how many resets are being applied (R183). `pending`: the commands
waiting, first in, first out, and `freeCount`, the counter of free choices (log 5), are the model's
own. -/
structure State where
  peers : List PeerEntry
  scanTimer : Nat
  phases : PhaseBlock
  follower : FollowerBlock
  checks : CheckBlock
  sensors : SensorBlock
  drive : DriveBlock
  guards : GuardBlock
  pendant : PendantBlock
  line : LineBlock
  store : StoreBlock
  resetsApplied : Nat
  freeCount : Nat
  pending : List Instr
  deriving DecidableEq, Repr

/-- A reset is being applied (R118, R183). -/
def State.held (s : State) : Bool := s.resetsApplied != 0

/-- The reasons a step stops with a fault: none. The LC24 has no event that stops it; what the manual
calls faults are causes, held in State (R119). Nobody raises one. -/
inductive Fault where
  deriving DecidableEq, Repr

/-- The reasons a step has no meaning for a command. -/
inductive Refusal where
  /-- Raised by an arm of `exec` for a command that has no meaning yet; no arm is left so. Safe. -/
  | notModelled (mnemonic : String)
  deriving DecidableEq, Repr

/-- `s` with another Peer Table entries. -/
def State.setPeers (s : State) (x : List PeerEntry) : State := { s with peers := x }

/-- `s` with another silence scan timer. -/
def State.setScanTimer (s : State) (x : Nat) : State := { s with scanTimer := x }

/-- `s` with another Phase Controller's state. -/
def State.setPhases (s : State) (x : PhaseBlock) : State := { s with phases := x }

/-- `s` with another Level Follower's state. -/
def State.setFollower (s : State) (x : FollowerBlock) : State := { s with follower := x }

/-- `s` with another motion checks' state. -/
def State.setChecks (s : State) (x : CheckBlock) : State := { s with checks := x }

/-- `s` with another Sensor Port and Scaling state. -/
def State.setSensors (s : State) (x : SensorBlock) : State := { s with sensors := x }

/-- `s` with another Drive Output's state. -/
def State.setDrive (s : State) (x : DriveBlock) : State := { s with drive := x }

/-- `s` with another Guard Unit's state. -/
def State.setGuards (s : State) (x : GuardBlock) : State := { s with guards := x }

/-- `s` with another Pendant Interface's state. -/
def State.setPendant (s : State) (x : PendantBlock) : State := { s with pendant := x }

/-- `s` with another Line Interface's state. -/
def State.setLine (s : State) (x : LineBlock) : State := { s with line := x }

/-- `s` with another Configuration Store's state. -/
def State.setStore (s : State) (x : StoreBlock) : State := { s with store := x }

/-- `s` with another count of resets being applied. -/
def State.setResetsApplied (s : State) (x : Nat) : State := { s with resetsApplied := x }

/-- `s` with another queue of waiting commands. -/
def State.setPending (s : State) (x : List Instr) : State := { s with pending := x }

/-- What State.reset's release samples (log 1, DESIGN CHOICE: the spec gives inputs no value): station
strap 1, the lowest number that names a column, SETUP strap not fitted, every guard line low, no
pendant plugged in. -/
def State.resetInputs : SampledInputs :=
  { station := 1#6, setupStrap := false, guards := 0#8, raise := false, lower := false,
    ack := false, mark := false, present := false }

/-- A new part right after a POWER reset: record erased (R170), so the configuration is invalid
(R171), and every block as its "after reset" rule gives it (R21, R41, R67, R88, R105, R118, R138,
R149, R168, R185). -/
def State.reset : State :=
  { peers := []
    scanTimer := silenceScanMs
    phases :=
      { phase := .init, target := none, mark := none, atTarget := false, atMark := false,
        seekStart := none, seatedCount := 0, positionSeen := false, loadSeen := false,
        epoch := 0#4, causes := [], origin := none }
    follower :=
      { prevDemand := 0, lastDemand := { speed := 0, direction := none, duty := 0 },
        stallRef := none, stallCounter := 0 }
    checks := { stallArmed := false, watched := none, extreme := none, driftRef := none }
    sensors :=
      { controlTimer := controlPeriodMs, positionRequest := false, loadRequest := false,
        port := .idle, overrunCount := 0, invalidCount := 0, height := none, load := none,
        lastSaturated := false, contact := false, contactRun := 0, overloadRun := 0 }
    drive :=
      { state := .stopped, duty := 0, direction := .up, runEnable := false,
        brakeReleased := false, dwellTimer := none, settleTimer := none, demandTimer := none }
    guards := { levels := State.resetInputs.guards, pending := 0#8 }
    pendant :=
      { raise := State.resetInputs.raise, lower := State.resetInputs.lower,
        ack := State.resetInputs.ack, mark := State.resetInputs.mark,
        present := State.resetInputs.present, held := none, lockout := false,
        lampReady := false, lampMoving := false, lampFault := false, blinkTimer := none }
    line :=
      { tx := .idle, errors := 0, queue := [], slot := false, statusTimer := statusPeriodMs,
        rxQueue := [], rxWaitsIdle := true }
    store :=
      { station := State.resetInputs.station, setupStrap := State.resetInputs.setupStrap,
        resetCause := .power, record := .erased, active := none, ownDigest := none,
        staging :=
          { fields :=
              { group := none, line := none, side := none, linesLo := none, linesHi := none,
                vNom := none, vCreep := none, rampStep := none, vDriveMax := none,
                hWork := none, hRest := none, posZero := none, posScale := none,
                loadZero := none, loadSpan := none, guardEnable := none,
                guardPolarity := none, ovlQualify := none, silenceLimit := none,
                protect := none }
            tol :=
              { aLocal := none, aGroup := none, wContact := none, wCapacity := none,
                seekMax := none, driftLimit := none } }
        tolPointer := 0, passComplete := false, windowOpen := true, windowTimer := some windowMs,
        commit := .idle, writeTimer := none, result := .none }
    resetsApplied := 0
    freeCount := 0
    pending := [] }

end Sys2Proof.Machine
end

