-- ==== Sys2Proof/Machine/Codes.lean ====
section
/-!
DEFINITION. The codes of phases, causes, group commands, reset causes and config results (chapter
"Introduction" section 3, R120, R153, R154), and the classes of phases the rules speak of.
-/

namespace Sys2Proof.Machine

/-- Phase codes 0 to 10 (00_scope.md section 3). -/
def Phase.code : Phase → Nat
  | .init => 0 | .unconfigured => 1 | .listen => 2 | .ready => 3 | .seek => 4 | .seated => 5
  | .lift => 6 | .hold => 7 | .lower => 8 | .retract => 9 | .halted => 10

/-- The phase a code names; none above 10 (R4). -/
def Phase.ofCode : Nat → Option Phase
  | 0 => some .init | 1 => some .unconfigured | 2 => some .listen | 3 => some .ready
  | 4 => some .seek | 5 => some .seated | 6 => some .lift | 7 => some .hold | 8 => some .lower
  | 9 => some .retract | 10 => some .halted | _ => none

/-- The motion phases SEEK, LIFT, LOWER and RETRACT (00_scope.md section 3). -/
def Phase.isMotion : Phase → Bool
  | .seek | .lift | .lower | .retract => true
  | .init | .unconfigured | .listen | .ready | .seated | .hold | .halted => false

/-- The loaded phases SEATED, LIFT, HOLD and LOWER (00_scope.md section 3). -/
def Phase.isLoaded : Phase → Bool
  | .seated | .lift | .hold | .lower => true
  | .init | .unconfigured | .listen | .ready | .seek | .retract | .halted => false

/-- The phases in which reports are dropped (R120). -/
def Phase.dropsReports : Phase → Bool
  | .init | .unconfigured => true
  | .listen | .ready | .seek | .seated | .lift | .hold | .lower | .retract | .halted => false

/-- The phases in which the epoch is adopted and no peer halt is latched (R128, R129). -/
def Phase.isStarting : Phase → Bool
  | .init | .unconfigured | .listen => true
  | .ready | .seek | .seated | .lift | .hold | .lower | .retract | .halted => false

/-- Cause codes 1 to 26 (00_scope.md section 3, R120). -/
def Cause.code : Cause → Nat
  | .estopInput => 1 | .estopCommand => 2 | .overtravel => 3 | .bottomLoaded => 4 | .nutWear => 5
  | .area => 6 | .driveFault => 7 | .auxA => 8 | .auxB => 9 | .overload => 10 | .noContact => 11
  | .loadLost => 12 | .stall => 13 | .wrongDirection => 14 | .drift => 15 | .spread => 16
  | .sensorStale => 17 | .sensorInvalid => 18 | .driveStarved => 19 | .peerSilent => 20
  | .peerRestarted => 21 | .duplicateStation => 22 | .positionClash => 23
  | .configMismatch => 24 | .lineFault => 25 | .receiveOverrun => 26

/-- The cause a code names; none outside 1 to 26 (R4). -/
def Cause.ofCode : Nat → Option Cause
  | 1 => some .estopInput | 2 => some .estopCommand | 3 => some .overtravel
  | 4 => some .bottomLoaded | 5 => some .nutWear | 6 => some .area | 7 => some .driveFault
  | 8 => some .auxA | 9 => some .auxB | 10 => some .overload | 11 => some .noContact
  | 12 => some .loadLost | 13 => some .stall | 14 => some .wrongDirection | 15 => some .drift
  | 16 => some .spread | 17 => some .sensorStale | 18 => some .sensorInvalid
  | 19 => some .driveStarved | 20 => some .peerSilent | 21 => some .peerRestarted
  | 22 => some .duplicateStation | 23 => some .positionClash | 24 => some .configMismatch
  | 25 => some .lineFault | 26 => some .receiveOverrun | _ => none

/-- Command kind codes 1 to 7 (R154). -/
def CommandKind.code : CommandKind → BitVec 4
  | .raise => 1#4 | .lower => 2#4 | .hold => 3#4 | .estop => 4#4 | .ack => 5#4
  | .setMark => 6#4 | .clearMark => 7#4

/-- Reset cause codes 0 to 3 (R153). -/
def resetCauseCode : ResetKind → BitVec 2
  | .power => 0#2 | .supply => 1#2 | .pin => 2#2 | .service => 3#2

/-- Config result codes 0 to 7 (R153). -/
def ConfigResult.code : ConfigResult → BitVec 3
  | .none => 0#3 | .accepted => 1#3 | .refusedClosed => 2#3 | .refusedProtected => 3#3
  | .refusedRange => 4#3 | .busy => 5#3 | .committed => 6#3 | .refusedInconsistent => 7#3

/-- The station numbers of columns: 1 to 48 (R3, R68, R169). -/
def isColumnStation (station : BitVec 6) : Bool := 1 ≤ station.toNat && station.toNat ≤ 48

end Sys2Proof.Machine
end

