-- ==== Sys2Proof/Machine/Crc.lean ====
section
/-!
DEFINITION. The CRC-16 of the Lift Line, also used for the record digest and the group digest
(R151, R170, R172).
-/

namespace Sys2Proof.Machine

/-- One bit into the register: generator x^16 + x^12 + x^5 + 1 (R151; the shift-register reading of
"fed", log 14). -/
def crcBit (r : Word) (b : Bool) : Word :=
  if r.msb != b then (r <<< 1) ^^^ 0x1021#16 else r <<< 1

/-- One byte, most significant bit first (R151). -/
def crcByte (r : Word) (x : Byte) : Word :=
  [7, 6, 5, 4, 3, 2, 1, 0].foldl (fun r i => crcBit r (x.getLsbD i)) r

/-- The register after all the bytes, started at all ones, with no final inversion (R151). -/
def crc16 (bytes : List Byte) : Word := bytes.foldl crcByte 0xFFFF#16

/-- A 16-bit value as two bytes, high byte first (R151, R170, R172). -/
def wordBytes (w : Word) : List Byte := [w.extractLsb' 8 8, w.extractLsb' 0 8]

end Sys2Proof.Machine
end

