-- ==== Sys2Proof/Machine/Record.lean ====
section
/-!
DEFINITION. The configuration record: its fields in order, their ranges, the relations a commit and a
reset check, the two digests, and the active configuration's values as the blocks read them
(R170 to R173, R175, R176, R179).
-/

namespace Sys2Proof.Machine

/-- Fields 1 to 20 in ascending id (R170). -/
def ConfigFields.toList {α : Type} (f : ConfigFields α) : List α :=
  [f.group, f.line, f.side, f.linesLo, f.linesHi, f.vNom, f.vCreep, f.rampStep, f.vDriveMax,
    f.hWork, f.hRest, f.posZero, f.posScale, f.loadZero, f.loadSpan, f.guardEnable,
    f.guardPolarity, f.ovlQualify, f.silenceLimit, f.protect]

/-- Slots 0 to 5 in ascending order (R170). -/
def Tolerances.toList {α : Type} (t : Tolerances α) : List α :=
  [t.aLocal, t.aGroup, t.wContact, t.wCapacity, t.seekMax, t.driftLimit]

/-- The fields with `g` applied to each. -/
def ConfigFields.map {α β : Type} (g : α → β) (f : ConfigFields α) : ConfigFields β :=
  { group := g f.group, line := g f.line, side := g f.side, linesLo := g f.linesLo,
    linesHi := g f.linesHi, vNom := g f.vNom, vCreep := g f.vCreep, rampStep := g f.rampStep,
    vDriveMax := g f.vDriveMax, hWork := g f.hWork, hRest := g f.hRest, posZero := g f.posZero,
    posScale := g f.posScale, loadZero := g f.loadZero, loadSpan := g f.loadSpan,
    guardEnable := g f.guardEnable, guardPolarity := g f.guardPolarity,
    ovlQualify := g f.ovlQualify, silenceLimit := g f.silenceLimit, protect := g f.protect }

/-- The tolerances with `g` applied to each. -/
def Tolerances.map {α β : Type} (g : α → β) (t : Tolerances α) : Tolerances β :=
  { aLocal := g t.aLocal, aGroup := g t.aGroup, wContact := g t.wContact,
    wCapacity := g t.wCapacity, seekMax := g t.seekMax, driftLimit := g t.driftLimit }

/-- The fields with the value of field `id` replaced; an id that names no field changes nothing
(R175). -/
def ConfigFields.setId {α : Type} (f : ConfigFields α) (id : Nat) (v : α) : ConfigFields α :=
  match id with
  | 1 => { f with group := v }
  | 2 => { f with line := v }
  | 3 => { f with side := v }
  | 4 => { f with linesLo := v }
  | 5 => { f with linesHi := v }
  | 6 => { f with vNom := v }
  | 7 => { f with vCreep := v }
  | 8 => { f with rampStep := v }
  | 9 => { f with vDriveMax := v }
  | 10 => { f with hWork := v }
  | 11 => { f with hRest := v }
  | 12 => { f with posZero := v }
  | 13 => { f with posScale := v }
  | 14 => { f with loadZero := v }
  | 15 => { f with loadSpan := v }
  | 16 => { f with guardEnable := v }
  | 17 => { f with guardPolarity := v }
  | 18 => { f with ovlQualify := v }
  | 19 => { f with silenceLimit := v }
  | 20 => { f with protect := v }
  | _ => f

/-- The tolerances with the value of a slot replaced (R176). -/
def Tolerances.setSlot {α : Type} (t : Tolerances α) (slot : Nat) (v : α) : Tolerances α :=
  match slot with
  | 0 => { t with aLocal := v }
  | 1 => { t with aGroup := v }
  | 2 => { t with wContact := v }
  | 3 => { t with wCapacity := v }
  | 4 => { t with seekMax := v }
  | 5 => { t with driftLimit := v }
  | _ => t

/-- The range of each field (R170). -/
def fieldRanges : ConfigFields (Nat × Nat) :=
  { group := (1, 15), line := (0, 23), side := (0, 1), linesLo := (0, 65535),
    linesHi := (0, 255), vNom := (10, 300), vCreep := (2, 50), rampStep := (1, 100),
    vDriveMax := (50, 500), hWork := (0, 24000), hRest := (0, 24000), posZero := (0, 65535),
    posScale := (100, 273), loadZero := (0, 1023), loadSpan := (256, 2048),
    guardEnable := (0, 255), guardPolarity := (0, 255), ovlQualify := (0, 3),
    silenceLimit := (3, 15), protect := (0, 1) }

/-- The range of each tolerance (R170). -/
def toleranceRanges : Tolerances (Nat × Nat) :=
  { aLocal := (5, 500), aGroup := (10, 1000), wContact := (50, 2000), wCapacity := (100, 4000),
    seekMax := (10, 2000), driftLimit := (2, 100) }

/-- Whether a value lies within a range, ends included. -/
def inRange (v : Word) (r : Nat × Nat) : Bool := r.1 ≤ v.toNat && v.toNat ≤ r.2

/-- The range of field `id`; none for an id that names no field (R175). -/
def fieldRange (id : Nat) : Option (Nat × Nat) :=
  if id = 0 then none else fieldRanges.toList[id - 1]?

/-- The range of a tolerance slot. -/
def toleranceRange (slot : Nat) : Option (Nat × Nat) := toleranceRanges.toList[slot]?

/-- Every field and every tolerance lies within its range (R171). -/
def ConfigValues.inRanges (c : ConfigValues) : Bool :=
  (c.fields.toList.zip fieldRanges.toList).all (fun p => inRange p.1 p.2) &&
    (c.tol.toList.zip toleranceRanges.toList).all (fun p => inRange p.1 p.2)

/-- The enabled-line mask, bit k = line k: LINES_LO for lines 0 to 15, LINES_HI for 16 to 23
(R15, R170). -/
def ConfigValues.mask (c : ConfigValues) : BitVec 24 :=
  c.fields.linesHi.setWidth 8 ++ c.fields.linesLo

/-- Own line (R170). -/
def ConfigValues.lineNo (c : ConfigValues) : Nat := c.fields.line.toNat

/-- Own side (R170: 0 = L, 1 = R). -/
def ConfigValues.ownSide (c : ConfigValues) : Side :=
  if c.fields.side = 0#16 then .left else .right

/-- Own group as a frame carries it (R152). -/
def ConfigValues.groupNo (c : ConfigValues) : BitVec 4 := c.fields.group.setWidth 4

/-- The relations a commit and a reset check (R171, R179): V_CREEP ≤ V_NOM ≤ V_DRIVE_MAX,
A_LOCAL ≤ A_GROUP, W_CONTACT < W_CAPACITY, and own LINE enabled in the mask. -/
def ConfigValues.related (c : ConfigValues) : Bool :=
  c.fields.vCreep.toNat ≤ c.fields.vNom.toNat &&
  c.fields.vNom.toNat ≤ c.fields.vDriveMax.toNat &&
  c.tol.aLocal.toNat ≤ c.tol.aGroup.toNat &&
  c.tol.wContact.toNat < c.tol.wCapacity.toNat &&
  c.mask.getLsbD c.lineNo

/-- The record digest: the CRC over 52 bytes, fields 1 to 20 and then slots 0 to 5 (R170). -/
def recordDigest (c : ConfigValues) : Word :=
  crc16 ((c.fields.toList ++ c.tol.toList).flatMap wordBytes)

/-- The group digest: the CRC over GROUP, LINES_LO, LINES_HI, V_NOM, A_LOCAL and A_GROUP (R172). -/
def groupDigest (c : ConfigValues) : Word :=
  crc16 ([c.fields.group, c.fields.linesLo, c.fields.linesHi, c.fields.vNom, c.tol.aLocal,
    c.tol.aGroup].flatMap wordBytes)

/-- The bits for G0 and G1 of GUARD_ENABLE forced to 1 (R139, R171, R175). -/
def forceGuardEnable (w : Word) : Word := w ||| 3#16

/-- The active configuration a record gives at a reset: its values with the G0 and G1 enables forced
on when the digest checks, every value is in range and the relations hold; none, invalid, otherwise
(R171). An erased or broken record's digest does not check (R170, R180). -/
def activeOf : NvRecord → Option ConfigValues
  | .written c digest =>
    if digest = recordDigest c && c.inRanges && c.related then
      some { c with fields := { c.fields with guardEnable := forceGuardEnable c.fields.guardEnable } }
    else none
  | .erased => none
  | .broken => none

/-- The staging copy after a reset (R173): loaded from a valid active configuration, else every field
and slot absent. -/
def stagingOf : Option ConfigValues → Staging
  | some c => { fields := c.fields.map some, tol := c.tol.map some }
  | none => { fields := fieldRanges.map (fun _ => none), tol := toleranceRanges.map (fun _ => none) }

/-- The values of a staging copy that holds a value for every field and slot (R179); none when one is
absent. -/
def Staging.values (g : Staging) : Option ConfigValues :=
  if g.fields.toList.all Option.isSome && g.tol.toList.all Option.isSome then
    some { fields := g.fields.map (fun v => v.getD 0#16), tol := g.tol.map (fun v => v.getD 0#16) }
  else none

/-- The lines enabled in the mask, ascending. -/
def ConfigValues.enabledLines (c : ConfigValues) : List Nat :=
  (List.range 24).filter (fun k => c.mask.getLsbD k)

/-- The expected group size E: twice the number of enabled lines (R18). -/
def ConfigValues.groupSize (c : ConfigValues) : Nat := 2 * c.enabledLines.length

/-- Whether a guard line is enabled (R139). -/
def ConfigValues.guardEnabled (c : ConfigValues) (i : Fin 8) : Bool :=
  c.fields.guardEnable.getLsbD i.val

/-- The level at which a guard line is active: high where its polarity bit is 1 (R139). -/
def ConfigValues.guardActiveLevel (c : ConfigValues) (i : Fin 8) : Bool :=
  c.fields.guardPolarity.getLsbD i.val

/-- Q, the overload run OVL_QUALIFY asks for (R102). -/
def ConfigValues.overloadQ (c : ConfigValues) : Nat :=
  match c.fields.ovlQualify.toNat with
  | 0 => 3
  | 1 => 6
  | 2 => 12
  | _ => 24

/-- The release threshold: W_CONTACT − W_CONTACT / 8 (R101). -/
def ConfigValues.releaseThreshold (c : ConfigValues) : Nat :=
  c.tol.wContact.toNat - c.tol.wContact.toNat / 8

end Sys2Proof.Machine
end

