-- ==== Sys2Proof/Machine/Peers.lean ====
section
/-!
DEFINITION. The Peer Table's operations and conditions: reading a STATUS report (R2, R4), the clash
check (R5), storing (R6 to R8), ageing (R12, R13), neighbour slots (R15 to R17), completeness and the
conditions it offers (R18 to R20).
-/

namespace Sys2Proof.Machine

/-- A STATUS report whose values all lie in range (R4), as an entry holds them (R2). -/
structure PeerReport where
  line : Nat
  side : Side
  phase : Phase
  height : Nat
  contact : Bool
  atTarget : Bool
  halt : HaltReport
  epoch : BitVec 4
  digestMatch : Bool
  deriving DecidableEq, Repr

/-- The halt report of the two halt fields (R2); none where R4 calls the frame malformed. -/
def haltReportOf (kind : BitVec 2) (field : BitVec 6) : Option HaltReport :=
  match kind.toNat with
  | 0 => some .none
  | 1 => (Cause.ofCode field.toNat).map .localCause
  | 2 => if isColumnStation field then some (.peerOrigin field.toNat) else none
  | _ => none

/-- The report of a STATUS frame, with digest match against own group digest (R2); none when a value
is out of range (R4). -/
def reportOf (ownDigest : Option Word) (f : StatusFields) : Option PeerReport :=
  match Phase.ofCode f.phase.toNat, haltReportOf f.haltKind f.causeOrOrigin with
  | some phase, some halt =>
    if f.line.toNat ≤ 23 && f.height.toNat ≤ maxHeight && f.load.toNat ≤ maxLoad then
      some
        { line := f.line.toNat
          side := if f.side then .right else .left
          phase := phase
          height := f.height.toNat
          contact := f.contact
          atTarget := f.atTarget
          halt := halt
          epoch := f.epoch
          digestMatch := ownDigest == some f.digest }
    else none
  | _, _ => none

/-- The entry a stored report gives: every reported field together, PRESENT, full silence count
(R2, R6, R7). -/
def entryOf (station silenceLimit : Nat) (r : PeerReport) : PeerEntry :=
  { station := station, line := r.line, side := r.side, presence := .present,
    silence := silenceLimit, phase := r.phase, height := r.height, contact := r.contact,
    atTarget := r.atTarget, halt := r.halt, epoch := r.epoch, digestMatch := r.digestMatch }

/-- The entry of a station. -/
def findPeer (peers : List PeerEntry) (station : Nat) : Option PeerEntry :=
  peers.find? (fun e => e.station == station)

/-- The table with the station's entry replaced, or a new entry in its place in ascending station
order (R1, R6). -/
def storePeer (e : PeerEntry) : List PeerEntry → List PeerEntry
  | [] => [e]
  | x :: xs =>
    if e.station < x.station then e :: x :: xs
    else if e.station = x.station then e :: xs
    else x :: storePeer e xs

/-- The clash check fails: the position is own position, or claimed by an entry of another station
(R5, R8). -/
def positionClaimed (c : ConfigValues) (peers : List PeerEntry) (station line : Nat)
    (side : Side) : Bool :=
  (c.lineNo == line && c.ownSide == side) ||
    peers.any (fun e => e.station != station && e.line == line && e.side == side)

/-- One scan of one entry (R12, R13): a PRESENT entry's count drops by one, and at 0 it is LOST; a LOST
entry is left as it is. -/
def agePeer (e : PeerEntry) : PeerEntry :=
  match e.presence with
  | .lost => e
  | .present =>
    if e.silence ≤ 1 then { e with presence := .lost, silence := 0 }
    else { e with silence := e.silence - 1 }

/-- The stations whose entries a scan makes LOST, in table order, which is ascending (R13). -/
def lostByScan (peers : List PeerEntry) : List Nat :=
  (peers.filter (fun e => e.presence == .present && (agePeer e).presence == .lost)).map (·.station)

/-- The five neighbour slots (R15). -/
inductive Slot where
  | partner | previousLeft | previousRight | nextLeft | nextRight
  deriving DecidableEq, Repr

/-- All five slots. -/
def allSlots : List Slot := [.partner, .previousLeft, .previousRight, .nextLeft, .nextRight]

/-- The highest enabled line below own line (R15). -/
def previousLine (c : ConfigValues) : Option Nat :=
  (c.enabledLines.filter (fun k => k < c.lineNo)).getLast?

/-- The lowest enabled line above own line (R15). -/
def nextLine (c : ConfigValues) : Option Nat :=
  (c.enabledLines.filter (fun k => c.lineNo < k)).head?

/-- The other side of a line. -/
def Side.other : Side → Side
  | .left => .right
  | .right => .left

/-- The position of a slot; none for an absent slot (R15). -/
def slotPosition (c : ConfigValues) : Slot → Option (Nat × Side)
  | .partner => some (c.lineNo, c.ownSide.other)
  | .previousLeft => (previousLine c).map (fun k => (k, .left))
  | .previousRight => (previousLine c).map (fun k => (k, .right))
  | .nextLeft => (nextLine c).map (fun k => (k, .left))
  | .nextRight => (nextLine c).map (fun k => (k, .right))

/-- The four states of a slot (R17). -/
inductive SlotState where
  | absent
  | unfilled
  | lost (entry : PeerEntry)
  | present (entry : PeerEntry)
  deriving DecidableEq, Repr

/-- The state of a slot as the table stands (R16, R17). -/
def slotState (c : ConfigValues) (peers : List PeerEntry) (slot : Slot) : SlotState :=
  match slotPosition c slot with
  | none => .absent
  | some (line, side) =>
    match peers.find? (fun e => e.line == line && e.side == side) with
    | none => .unfilled
    | some e =>
      match e.presence with
      | .lost => .lost e
      | .present => .present e

/-- The PRESENT entries: the group members (R20). -/
def presentPeers (peers : List PeerEntry) : List PeerEntry :=
  peers.filter (fun e => e.presence == .present)

/-- Mismatch-free (R20): no PRESENT entry has digest match no. -/
def mismatchFree (s : State) : Bool := (presentPeers s.peers).all (fun e => e.digestMatch)

/-- Group complete (R18): PRESENT entries with digest match number exactly E − 1, and no PRESENT entry
is without match, however many match (R18, R50, R52; log 25); false while the configuration is invalid
(R21). -/
def groupComplete (s : State) : Bool :=
  match s.store.active with
  | none => false
  | some c =>
    mismatchFree s && (presentPeers s.peers).countP (fun e => e.digestMatch) + 1 == c.groupSize

/-- A member reports seated (R20): PRESENT, phase SEATED, LIFT or HOLD, CONTACT set. -/
def reportsSeated (e : PeerEntry) : Bool :=
  e.presence == .present && (e.phase == .seated || e.phase == .lift || e.phase == .hold) && e.contact

/-- The seated count (R55). -/
def countSeated (peers : List PeerEntry) : Nat := peers.countP reportsSeated

/-- Set at target with own AT_TARGET (R20, R87). -/
def setAtTarget (s : State) : Bool :=
  s.phases.atTarget && (presentPeers s.peers).all (fun e => e.atTarget)

end Sys2Proof.Machine
end

