-- ==== Sys2Proof/Machine/Flags.lean ====
section
/-!
DEFINITION. What other blocks read as flags: the levels of the guard lines (R139, R140), the halt
report (R122), the status flags and every field of a STATUS frame (R42, R104, R153), and the lamps
(R86, R87).
-/

namespace Sys2Proof.Machine

/-- `v` with bit i set to `b`. -/
def setBit8 (v : BitVec 8) (i : Fin 8) (b : Bool) : BitVec 8 :=
  if b then v ||| BitVec.twoPow 8 i.val else v &&& ~~~(BitVec.twoPow 8 i.val)

/-- A guard line is active for the other blocks: enabled, and its filtered level is the active one.
Without a valid configuration no line is (R139, R140, R142). -/
def lineActive (s : State) (i : Fin 8) : Bool :=
  match s.store.active with
  | none => false
  | some c => c.guardEnabled i && s.guards.levels.getLsbD i.val == c.guardActiveLevel i

/-- The cause each guard line reports (R139). -/
def guardCause (i : Fin 8) : Cause :=
  match i.val with
  | 0 => .estopInput
  | 1 => .overtravel
  | 2 => .bottomLoaded
  | 3 => .nutWear
  | 4 => .area
  | 5 => .driveFault
  | 6 => .auxA
  | _ => .auxB

/-- The guard lines in order G0 to G7. -/
def guardLines : List (Fin 8) := [0, 1, 2, 3, 4, 5, 6, 7]

/-- BOTTOM_LIMIT as the Level Follower reads it (R24, R148). -/
def bottomActive (s : State) : Bool := lineActive s 2

/-- Own height as the other blocks read it. The manual holds it always defined where it is used (R41);
a height of none reads as 0, as in a status frame (R104; log 12). -/
def ownHeight (s : State) : Nat := s.sensors.height.getD 0

/-- What the column reports of its own halt (R122). -/
def ownHalt (s : State) : HaltReport :=
  match s.phases.causes with
  | c :: _ => .localCause c
  | [] =>
    match s.phases.origin with
    | some station => .peerOrigin station
    | none => .none

/-- The two halt fields of a report (R122, R153). -/
def haltFields : HaltReport → BitVec 2 × BitVec 6
  | .none => (0#2, 0#6)
  | .localCause c => (1#2, BitVec.ofNat 6 c.code)
  | .peerOrigin station => (2#2, BitVec.ofNat 6 station)

/-- Every field of a STATUS frame that starts now (R104, R122, R153, R157). Without a valid
configuration line, side and digest take the fixed values of R49; height, load and the flags are
none and clear then by themselves. -/
def statusFields (s : State) : StatusFields :=
  { line := (s.store.active.map (fun c => c.fields.line.setWidth 5)).getD 0#5
    side := (s.store.active.map (fun c => c.ownSide == .right)).getD false
    phase := BitVec.ofNat 4 s.phases.phase.code
    contact := s.sensors.contact
    atTarget := s.phases.atTarget
    markSet := s.phases.mark.isSome
    atMark := s.phases.atMark
    setupOpen := s.store.windowOpen
    height := BitVec.ofNat 15 (ownHeight s)
    load := BitVec.ofNat 12 (s.sensors.load.getD 0)
    haltKind := (haltFields (ownHalt s)).1
    causeOrOrigin := (haltFields (ownHalt s)).2
    epoch := s.phases.epoch
    digest := s.store.ownDigest.getD 0#16
    resetCause := resetCauseCode s.store.resetCause
    configResult := s.store.result.code }

/-- The group a column's frames carry: own GROUP, 0 while the configuration is invalid (R152). -/
def ownGroup (s : State) : BitVec 4 := (s.store.active.map ConfigValues.groupNo).getD 0#4

/-- The lamps a phase gives: READY, MOVING, FAULT (R86). -/
def lampsOf : Phase → Bool × Bool × Bool
  | .init | .unconfigured | .listen | .seated => (false, false, false)
  | .ready => (true, false, false)
  | .seek | .lift | .lower | .retract => (false, true, false)
  | .hold => (true, false, false)
  | .halted => (false, false, true)

/-- The set-at-target condition is re-evaluated (R87). The blink timer runs exactly while the
condition held at its last evaluation. -/
def updateBlink (s : State) : State :=
  if setAtTarget s then
    if s.pendant.blinkTimer.isNone then
      s.setPendant { s.pendant with lampMoving := true, blinkTimer := some blinkMs }
    else s
  else if s.pendant.blinkTimer.isSome then
    s.setPendant
      { s.pendant with lampMoving := (lampsOf s.phases.phase).2.1, blinkTimer := none }
  else s

/-- The lamps are set for the phase that stands (R86), and blinking follows set-at-target (R87). -/
def showPhase (s : State) : State :=
  updateBlink
    (s.setPendant
      { s.pendant with
        lampReady := (lampsOf s.phases.phase).1
        lampMoving := (lampsOf s.phases.phase).2.1
        lampFault := (lampsOf s.phases.phase).2.2 })

end Sys2Proof.Machine
end

