-- ==== Sys2Proof/Machine/Ops.lean ====
section
/-!
DEFINITION. The shared operations the rules state once and many commands use: filling the status slot
and the two queues of the Line Interface (R158, R162, R167), starting and stopping the drive
(R108, R111, R116), the change of phase (R43), latching (R120, R121), the entry actions of phases
(R48, R51, R53, R56), guard edges (R141 to R147), the acknowledgement (R125, R126) and the reset.
-/

namespace Sys2Proof.Machine

/-- What a meaning answers. -/
abbrev Answer := Host.Outcome State Fault Refusal

/-- A command's effect on the running part. While a reset is applied the part is held (R118, R183) and
no event has an effect on it (log 8). -/
def running (s : State) (effect : State → State) : Answer :=
  .next (if s.held then s else effect s)

/-! ### The Line Interface -/

/-- IDLE goes to WAITING when a command joins or the slot is filled (R156, R158, R162). -/
def TxState.wake : TxState → TxState
  | .idle => .waiting
  | .waiting => .waiting
  | .sendingCommand f => .sendingCommand f
  | .sendingStatus f r => .sendingStatus f r
  | .disabled => .disabled

/-- The transmitter after the slot was filled: woken, and a status frame in progress remembers that
the slot was filled again after it started (R158, R159). -/
def TxState.afterFill : TxState → TxState
  | .idle => .waiting
  | .waiting => .waiting
  | .sendingCommand f => .sendingCommand f
  | .sendingStatus f _ => .sendingStatus f true
  | .disabled => .disabled

/-- The status slot is filled and the status timer restarted (R158). -/
def fillSlot (s : State) : State :=
  s.setLine
    { s.line with slot := true, statusTimer := statusPeriodMs, tx := s.line.tx.afterFill }

/-- The commands a HOLD or ESTOP may displace from a full queue (R162): RAISE, LOWER, SET_MARK and
CLEAR_MARK, but never the command being sent. -/
def TxCommand.displaceable (q : TxCommand) : Bool :=
  !q.sending &&
    match q.kind with
    | .raise | .lower | .setMark | .clearMark => true
    | .hold | .estop | .ack => false

/-- The queue without its newest displaceable command; none when it holds none (R162). -/
def dropNewest (queue : List TxCommand) : Option (List TxCommand) :=
  if queue.any TxCommand.displaceable then
    some (queue.reverse.eraseP TxCommand.displaceable).reverse
  else none

/-- A command joins the queue (R162): an ESTOP behind any ESTOP already queued and ahead of every
other command, the rest at the end. -/
def joinQueue (kind : CommandKind) (arg : Word) (queue : List TxCommand) : List TxCommand :=
  let q : TxCommand := { kind := kind, arg := arg, sending := false }
  match kind with
  | .estop =>
    queue.takeWhile (fun x => x.kind == .estop) ++ q :: queue.dropWhile (fun x => x.kind == .estop)
  | .raise | .lower | .hold | .ack | .setMark | .clearMark => queue ++ [q]

/-- The queue after a request (R162); none when the request is dropped. -/
def requestQueue (kind : CommandKind) (arg : Word) (queue : List TxCommand) :
    Option (List TxCommand) :=
  if queue.length < txQueueSize then some (joinQueue kind arg queue)
  else
    match kind with
    | .estop | .hold => (dropNewest queue).map (joinQueue kind arg)
    | .raise | .lower | .ack | .setMark | .clearMark => none

/-- A request to the transmit command queue (R160, R162). -/
def requestCommand (kind : CommandKind) (arg : Word) (s : State) : State :=
  if s.line.tx = .disabled then s
  else
    match requestQueue kind arg s.line.queue with
    | none => s
    | some queue => s.setLine { s.line with queue := queue, tx := s.line.tx.wake }

/-! ### The motion checks' drive events (R131) and the drive -/

/-- "Brake released" (R135, R136): the direction just set is watched, the drift reference dropped. -/
def checksBrakeReleased (s : State) : State :=
  s.setChecks
    { s.checks with watched := some s.drive.direction, extreme := none, driftRef := none }

/-- "Dwell expired" (R132): the stall check is armed afresh. -/
def checksDwellExpired (s : State) : State :=
  (s.setChecks { s.checks with stallArmed := true }).setFollower
    { s.follower with stallRef := none, stallCounter := 0 }

/-- "Brake set" (R132, R135): the stall check is disarmed and the wrong-direction check ended. -/
def checksBrakeSet (s : State) : State :=
  (s.setChecks { s.checks with stallArmed := false, watched := none, extreme := none }).setFollower
    { s.follower with stallRef := none, stallCounter := 0 }

/-- The direction of a motion phase (R23, R108): UP in SEEK and LIFT, DOWN in LOWER and RETRACT; none
in the stopped phases. -/
def Phase.direction : Phase → Option Direction
  | .seek | .lift => some .up
  | .lower | .retract => some .down
  | .init | .unconfigured | .listen | .ready | .seated | .hold | .halted => none

/-- Entry into a motion phase from outside (R108); a running settle is abandoned (R115). -/
def startDrive (new : Phase) (s : State) : State :=
  checksBrakeReleased
    (s.setDrive
      { s.drive with
        direction := new.direction.getD s.drive.direction
        duty := 0
        runEnable := true
        brakeReleased := true
        state := .dwell
        dwellTimer := some dwellMs
        settleTimer := none })

/-- The return to STOPPED from DWELL or RUNNING (R111, R113, R114, R116); in STOPPED nothing is done
(R111, R117). -/
def stopDrive (s : State) : State :=
  if s.drive.state = .stopped then s
  else
    checksBrakeSet
      (s.setDrive
        { s.drive with
          duty := 0
          runEnable := false
          brakeReleased := false
          state := .stopped
          dwellTimer := none
          settleTimer := some settleMs })

/-- What the Drive Output does at a change of phase (R108, R111, R112, R114). -/
def driveFollowsPhase (old new : Phase) (s : State) : State :=
  match old.isMotion, new.isMotion with
  | false, true => startDrive new s
  | true, false => stopDrive s
  | true, true => s
  | false, false =>
    if old = .init && new = .listen then
      s.setDrive { s.drive with settleTimer := some settleMs }
    else s

/-! ### Change of phase and latching -/

/-- A change of phase with all the effects of R43: flags cleared, status slot filled, previous demand
0 on entry into a motion phase (R38), the drive (R108, R111, R112, R114) and the lamps (R86, R87).
A transition to the phase already held is no change and has none of them. -/
def changePhase (new : Phase) (s : State) : State :=
  if s.phases.phase = new then s
  else
    let old := s.phases.phase
    let s := s.setPhases { s.phases with phase := new, atTarget := false, atMark := false }
    let s := fillSlot s
    let s := if new.isMotion then s.setFollower { s.follower with prevDemand := 0 } else s
    let s := driveFollowsPhase old new s
    showPhase s

/-- A cause is reported (R120): dropped in INIT and UNCONFIGURED, without effect when it is already in
the list, and otherwise latched at the list's end, entering HALTED (R64) and filling the slot. -/
def report (cause : Cause) (s : State) : State :=
  if s.phases.phase.dropsReports || s.phases.causes.contains cause then s
  else
    fillSlot
      (changePhase .halted (s.setPhases { s.phases with causes := s.phases.causes ++ [cause] }))

/-- A peer halt is latched (R121): the first origin is kept; entering HALTED and filling the slot. -/
def latchPeerHalt (station : Nat) (s : State) : State :=
  match s.phases.origin with
  | some _ => s
  | none =>
    fillSlot (changePhase .halted (s.setPhases { s.phases with origin := some station }))

/-- A frame arrives at the receive queue (R167). -/
def arriveFrame (frame : RxFrame) (s : State) : State :=
  if s.line.rxQueue.length < rxQueueSize then
    s.setLine { s.line with rxQueue := s.line.rxQueue ++ [frame] }
  else
    match frame with
    | .command _ _ _ =>
      let isStatus : RxFrame → Bool := fun f =>
        match f with
        | .status _ _ => true
        | .command _ _ _ | .configWrite _ _ | .tolWrite _ | .commit | .restart | .closeSetup => false
      if s.line.rxQueue.any isStatus then
        s.setLine { s.line with rxQueue := s.line.rxQueue.eraseP isStatus ++ [frame] }
      else report .receiveOverrun s
    | .status _ _ | .configWrite _ _ | .tolWrite _ | .commit | .restart | .closeSetup => s

/-! ### Entry actions of phases -/

/-- LISTEN is left, the group being complete (R51): for HOLD with CONTACT set, else for READY. -/
def leaveListen (s : State) : State :=
  changePhase (if s.sensors.contact then .hold else .ready) s

/-- Entry into SEEK (R53): the seek start is set to own height. -/
def enterSeek (s : State) : State :=
  let s := changePhase .seek s
  s.setPhases { s.phases with seekStart := s.sensors.height }

/-- The seating condition (R55): the seated count is at least E − 1 and the table is
mismatch-free. -/
def seatingHolds (s : State) : Bool :=
  match s.store.active with
  | none => false
  | some c => c.groupSize ≤ countSeated s.peers + 1 && mismatchFree s

/-- The seating condition is evaluated (R56): in SEATED the count is set afresh, and the column enters
LIFT when the condition holds. -/
def evaluateSeating (s : State) : State :=
  if s.phases.phase = .seated then
    let s := s.setPhases { s.phases with seatedCount := countSeated s.peers }
    if seatingHolds s then changePhase .lift s else s
  else s

/-- Entry into SEATED (R53), with its entry evaluation (R56). -/
def enterSeated (s : State) : State := evaluateSeating (changePhase .seated s)

/-- An arrival notice acts by phase (R32, R57, R59, R61): HOLD with the flag the kind names, or
READY. -/
def arrive (atMark : Bool) (s : State) : State :=
  match s.phases.phase with
  | .lift | .lower =>
    let s := changePhase .hold s
    updateBlink
      (s.setPhases
        (if atMark then { s.phases with atMark := true } else { s.phases with atTarget := true }))
  | .retract => changePhase .ready s
  | .init | .unconfigured | .listen | .ready | .seek | .seated | .hold | .halted => s

/-! ### Guard edges -/

/-- The ESTOP request of the Guard Unit (R146). -/
def requestEstop (s : State) : State := requestCommand .estop 0#16 s

/-- The line's pending latch is set. -/
def setPending (i : Fin 8) (s : State) : State :=
  s.setGuards { s.guards with pending := setBit8 s.guards.pending i true }

/-- A guard line reports its cause; G0 makes its ESTOP request first (R141, R144, R146). -/
def reportGuard (i : Fin 8) (s : State) : State :=
  report (guardCause i) (if i = 0 then requestEstop s else s)

/-- An active edge of G2 acts by phase (R147). -/
def bottomEdge (s : State) : State :=
  match s.phases.phase with
  | .retract => changePhase .ready s
  | .lower => if s.sensors.contact then report .bottomLoaded (setPending 2 s) else s
  | .init | .unconfigured | .listen | .ready | .seek | .seated | .lift | .hold | .halted => s

/-- An active edge of an enabled line acts by phase (R141, R142, R147). -/
def guardEdge (i : Fin 8) (s : State) : State :=
  if i = 2 then bottomEdge s
  else
    match s.phases.phase with
    | .unconfigured => s
    | .init => setPending i s
    | .listen | .ready | .seek | .seated | .lift | .hold | .lower | .retract | .halted =>
      reportGuard i (setPending i s)

/-- One line at the exit from INIT into LISTEN (R144). -/
def pseudoEdge (s : State) (i : Fin 8) : State :=
  match s.store.active with
  | none => s
  | some c =>
    if !c.guardEnabled i then s
    else if s.guards.pending.getLsbD i.val then reportGuard i s
    else if lineActive s i then guardEdge i s
    else s

/-- The change from INIT into LISTEN with its two entry actions (R48, R144). -/
def enterListenFromInit (s : State) : State :=
  let s := changePhase .listen s
  let s := guardLines.foldl pseudoEdge s
  if s.phases.phase = .listen && groupComplete s then leaveListen s else s

/-! ### Acknowledgement -/

/-- The guard line of a guard cause. -/
def Cause.guardLine (cause : Cause) : Option (Fin 8) :=
  guardLines.find? (fun i => guardCause i == cause)

/-- The removal condition of a cause (R126), read at the moment of the acknowledgement. -/
def removable (s : State) (cause : Cause) : Bool :=
  match cause with
  | .estopInput => !lineActive s 0
  | .overtravel => !lineActive s 1
  | .nutWear => !lineActive s 3
  | .area => !lineActive s 4
  | .driveFault => !lineActive s 5
  | .auxA => !lineActive s 6
  | .auxB => !lineActive s 7
  | .overload =>
    match s.store.active with
    | none => true
    | some c => !s.sensors.lastSaturated && s.sensors.load.getD 0 < c.tol.wCapacity.toNat
  | .sensorInvalid => s.sensors.invalidCount == 0
  | .peerSilent => groupComplete s
  | .configMismatch => mismatchFree s
  | .estopCommand | .bottomLoaded | .noContact | .loadLost | .stall | .wrongDirection | .drift
  | .spread | .sensorStale | .driveStarved | .peerRestarted | .duplicateStation | .positionClash
  | .lineFault | .receiveOverrun => true

/-- What the removal of one cause does besides leaving the list (R126): a guard cause's pending latch
is cleared (R143), the drift reference re-taken (R136), the transmitter taken out of DISABLED
(R161). -/
def afterRemoval (s : State) (cause : Cause) : State :=
  match cause.guardLine with
  | some i => s.setGuards { s.guards with pending := setBit8 s.guards.pending i false }
  | none =>
    match cause with
    | .drift => s.setChecks { s.checks with driftRef := s.sensors.height }
    | .lineFault =>
      s.setLine
        { s.line with
          errors := 0
          tx :=
            if s.line.tx = .disabled then (if s.line.slot then .waiting else .idle)
            else s.line.tx }
    | .estopInput | .estopCommand | .overtravel | .bottomLoaded | .nutWear | .area | .driveFault
    | .auxA | .auxB | .overload | .noContact | .loadLost | .stall | .wrongDirection | .spread
    | .sensorStale | .sensorInvalid | .driveStarved | .peerSilent | .peerRestarted
    | .duplicateStation | .positionClash | .configMismatch | .receiveOverrun => s

/-- Steps 2 and 3 of R125: the removable causes leave the list with what their removal does, the
others keep their order, and the origin is removed. -/
def removeCauses (s : State) : State :=
  let removed := s.phases.causes.filter (removable s)
  let kept := s.phases.causes.filter (fun c => !removable s c)
  let s := removed.foldl afterRemoval s
  s.setPhases { s.phases with causes := kept, origin := none }

/-- The phase HALTED is left for (R66). -/
def exitPhase (s : State) : Phase :=
  if groupComplete s then (if s.sensors.contact then .hold else .ready) else .listen

/-- An acknowledgement is taken (R125). -/
def acknowledge (s : State) : State :=
  let s := s.setPhases { s.phases with epoch := s.phases.epoch + 1#4 }
  let s := removeCauses s
  let s :=
    if s.phases.phase = .halted && s.phases.causes.isEmpty && s.phases.origin.isNone then
      changePhase (exitPhase s) s
    else s
  fillSlot s

/-! ### Reset -/

/-- The record as a reset finds it: broken when a commit was in flight (R180). -/
def recordAtReset (s : State) : NvRecord :=
  match s.store.commit with
  | .idle => s.store.record
  | .inFlight _ => .broken

/-- The Configuration Store after a reset (R169, R171 to R173, R177, R184, R185). -/
def storeAfterReset (kind : ResetKind) (inputs : SampledInputs) (record : NvRecord) : StoreBlock :=
  let active := activeOf record
  { station := inputs.station
    setupStrap := inputs.setupStrap
    resetCause := kind
    record := record
    active := active
    ownDigest := active.map groupDigest
    staging := stagingOf active
    tolPointer := 0
    passComplete := active.isSome
    windowOpen := true
    windowTimer := some windowMs
    commit := .idle
    writeTimer := none
    result := .none }

/-- The Drive Output after a reset, and while one is applied (R118). -/
def driveAfterReset : DriveBlock :=
  { state := .stopped, duty := 0, direction := .up, runEnable := false, brakeReleased := false,
    dwellTimer := none, settleTimer := none, demandTimer := none }

/-- Every block after a reset of any kind (R21, R41, R67, R88, R105, R118, R138, R149, R168, R185).
The waiting commands are the model's, and stay. -/
def resetPart (kind : ResetKind) (inputs : SampledInputs) (s : State) : State :=
  { peers := []
    scanTimer := silenceScanMs
    phases :=
      { phase := .init, target := none, mark := none, atTarget := false, atMark := false,
        seekStart := none, seatedCount := 0, positionSeen := false, loadSeen := false,
        epoch := 0#4, causes := [], origin := none }
    follower :=
      { prevDemand := 0, lastDemand := { speed := 0, direction := none, duty := 0 },
        stallRef := none, stallCounter := 0 }
    checks := { stallArmed := false, watched := none, extreme := none, driftRef := none }
    sensors :=
      { controlTimer := controlPeriodMs, positionRequest := false, loadRequest := false,
        port := .idle, overrunCount := 0, invalidCount := 0, height := none, load := none,
        lastSaturated := false, contact := false, contactRun := 0, overloadRun := 0 }
    drive := driveAfterReset
    guards := { levels := inputs.guards, pending := 0#8 }
    pendant :=
      { raise := inputs.raise, lower := inputs.lower, ack := inputs.ack, mark := inputs.mark,
        present := inputs.present, held := none, lockout := false, lampReady := false,
        lampMoving := false, lampFault := false, blinkTimer := none }
    line :=
      { tx := if isColumnStation inputs.station then .idle else .disabled, errors := 0,
        queue := [], slot := false, statusTimer := statusPeriodMs, rxQueue := [],
        rxWaitsIdle := true }
    store := storeAfterReset kind inputs (recordAtReset s)
    resetsApplied := 0
    freeCount := s.freeCount
    pending := s.pending }

end Sys2Proof.Machine
end

