-- ==== Sys2Proof/Machine/Clock.lean ====
section
/-!
DEFINITION. What a step does with no command waiting: time passes, a millisecond a step, and a timer
that has run out puts its expiry command in the queue (log 5; 00_scope.md section 5, "Time": timers are
the LC24's own, and an expiry is an event like any other).
-/

namespace Sys2Proof.Machine

/-- A timer a millisecond later; an idle one stays idle. -/
def countDown (t : Timer) : Timer := t.map (fun n => n - 1)

/-- A timer has run out. -/
def timerDue (t : Timer) : Bool := t == some 0

/-- The expiries of the timers that have run out. -/
def dueExpiries (s : State) : List Instr :=
  (if s.scanTimer = 0 then [.silenceScanExpiry] else []) ++
  (if s.sensors.controlTimer = 0 then [.controlPeriodExpiry] else []) ++
  (if s.line.statusTimer = 0 then [.statusTimerExpiry] else []) ++
  (if timerDue s.drive.dwellTimer then [.dwellExpiry] else []) ++
  (if timerDue s.drive.settleTimer then [.settleExpiry] else []) ++
  (if timerDue s.drive.demandTimer then [.demandTimerExpiry] else []) ++
  (if timerDue s.pendant.blinkTimer then [.blinkTimerExpiry] else []) ++
  (if timerDue s.store.windowTimer then [.windowTimerExpiry] else []) ++
  (if timerDue s.store.writeTimer then [.commitCompletion] else [])

/-- Every running timer has a millisecond less. -/
def passMillisecond (s : State) : State :=
  { s with
    scanTimer := s.scanTimer - 1
    sensors := { s.sensors with controlTimer := s.sensors.controlTimer - 1 }
    line := { s.line with statusTimer := s.line.statusTimer - 1 }
    drive :=
      { s.drive with
        dwellTimer := countDown s.drive.dwellTimer
        settleTimer := countDown s.drive.settleTimer
        demandTimer := countDown s.drive.demandTimer }
    pendant := { s.pendant with blinkTimer := countDown s.pendant.blinkTimer }
    store :=
      { s.store with
        windowTimer := countDown s.store.windowTimer
        writeTimer := countDown s.store.writeTimer } }

/-- No command is waiting: while a reset is applied the part is held; with no timer run out a
millisecond passes; else the expiry of one that has run out is queued, which one being free when
they are several. -/
def idleStep (s : State) : State :=
  if s.held then s
  else
    match dueExpiries s with
    | [] => passMillisecond s
    | [c] => s.setPending [c]
    | c :: rest =>
      { s with
        freeCount := s.freeCount + 1
        pending := [(c :: rest).getD (Config.firstDue s.freeCount % (c :: rest).length) c] }

end Sys2Proof.Machine
end

