-- ==== Sys2Proof/Machine/Timers.lean ====
section
/-!
DEFINITION. The meanings of the other timer expiries: STATUS_TIMER_EXPIRY (R158), DWELL_EXPIRY (R109),
SETTLE_EXPIRY (R114), DEMAND_TIMER_EXPIRY (R116), BLINK_TIMER_EXPIRY (R87), WINDOW_TIMER_EXPIRY
(R177) and COMMIT_COMPLETION (R180). An idle timer gives no expiry: the command has no effect then
(log 2).
-/

namespace Sys2Proof.Machine

/-- STATUS_TIMER_EXPIRY (R158): the slot is filled and the timer restarted. -/
def execStatusTimerExpiry (s : State) : Answer := running s fillSlot

/-- The dwell runs out (R109): RUNNING, the duty line still 0, "dwell expired" handed. In STOPPED and
RUNNING the timer is idle. -/
def dwellExpiry (s : State) : State :=
  if s.drive.dwellTimer.isNone then s
  else if s.drive.state = .dwell then
    checksDwellExpired
      (s.setDrive { s.drive with state := .running, duty := 0, dwellTimer := none })
  else s.setDrive { s.drive with dwellTimer := none }

/-- DWELL_EXPIRY (R109). -/
def execDwellExpiry (s : State) : Answer := running s dwellExpiry

/-- The settle time runs out (R114, R136): in STOPPED the drift reference is own height. -/
def settleExpiry (s : State) : State :=
  if s.drive.settleTimer.isNone then s
  else
    let idle := s.setDrive { s.drive with settleTimer := none }
    if s.drive.state = .stopped then
      idle.setChecks { s.checks with driftRef := s.sensors.height }
    else idle

/-- SETTLE_EXPIRY (R114). -/
def execSettleExpiry (s : State) : Answer := running s settleExpiry

/-- The demand timer runs out (R116): the drive is stopped and DRIVE_STARVED reported. -/
def demandExpiry (s : State) : State :=
  if s.drive.demandTimer.isNone then s
  else report .driveStarved (stopDrive (s.setDrive { s.drive with demandTimer := none }))

/-- DEMAND_TIMER_EXPIRY (R116). -/
def execDemandTimerExpiry (s : State) : Answer := running s demandExpiry

/-- The blink timer runs out while the condition holds (R87). -/
def blinkExpiry (s : State) : State :=
  if s.pendant.blinkTimer.isNone then s
  else
    s.setPendant
      { s.pendant with lampMoving := !s.pendant.lampMoving, blinkTimer := some blinkMs }

/-- BLINK_TIMER_EXPIRY (R87). -/
def execBlinkTimerExpiry (s : State) : Answer := running s blinkExpiry

/-- The setup window closes and its timer is stopped (R177). -/
def closeWindow (s : State) : State :=
  if s.store.windowOpen then
    s.setStore { s.store with windowOpen := false, windowTimer := none }
  else s

/-- The window timer runs out (R177): the window closes unless the SETUP strap is fitted. -/
def windowExpiry (s : State) : State :=
  if s.store.windowTimer.isNone then s
  else
    let s := s.setStore { s.store with windowTimer := none }
    if s.store.setupStrap then s else closeWindow s

/-- WINDOW_TIMER_EXPIRY (R177). -/
def execWindowTimerExpiry (s : State) : Answer := running s windowExpiry

/-- The write completes (R180): record and digest are replaced, the result is COMMITTED. -/
def completeCommit (s : State) : State :=
  match s.store.commit with
  | .idle => s
  | .inFlight values =>
    s.setStore
      { s.store with
        record := .written values (recordDigest values)
        commit := .idle
        writeTimer := none
        result := .committed }

/-- COMMIT_COMPLETION (R180). -/
def execCommitCompletion (s : State) : Answer := running s completeCommit

end Sys2Proof.Machine
end

