-- ==== Sys2Proof/Machine/GroupCommands.lean ====
section
/-!
DEFINITION. The meanings of the group commands taken from the receive queue (R68 to R78, R124): RAISE,
LOWER, HOLD, ESTOP, ACK, SET_MARK, CLEAR_MARK and the undefined command kinds.
-/

namespace Sys2Proof.Machine

/-- The oldest frame of the receive queue, a COMMAND frame of the given kind, is handed to the Phase
Controller (R166) and leaves the queue. It is discarded when its station names no column (R68). With
another frame in front or none this is no event (log 2, log 6). -/
def handCommand (kind : CommandKind) (take : Word → State → State) (s : State) : State :=
  match s.line.rxQueue with
  | .command station code arg :: rest =>
    if code = kind.code then
      let s := s.setLine { s.line with rxQueue := rest }
      if isColumnStation station then take arg s else s
    else s
  | _ => s

/-- A RAISE or LOWER taken closes the setup window unless the SETUP strap is fitted (R78). -/
def closeWindowOnMotion (s : State) : State :=
  if s.store.setupStrap then s else closeWindow s

/-- A motion command is taken in full (R69): its target, clamped to 24 000, replaces the one held, and
AT_TARGET and AT_MARK are cleared (R87 re-evaluated). -/
def takeTarget (arg : Word) (s : State) : State :=
  updateBlink
    (s.setPhases
      { s.phases with target := some (min arg.toNat maxHeight), atTarget := false, atMark := false })

/-- RAISE by phase (R69, R70, R72). -/
def takeRaise (arg : Word) (s : State) : State :=
  let s := closeWindowOnMotion s
  match s.phases.phase with
  | .init | .unconfigured | .listen | .halted => s
  | .ready => enterSeek (takeTarget arg s)
  | .seek | .lift => takeTarget arg s
  | .seated => evaluateSeating (takeTarget arg s)
  | .hold => changePhase .lift (takeTarget arg s)
  | .lower => changePhase .hold (takeTarget arg s)
  | .retract => changePhase .ready (takeTarget arg s)

/-- RAISE (R70). -/
def execRaise (s : State) : Answer := running s (handCommand .raise takeRaise)

/-- LOWER by phase (R69, R71, R72). -/
def takeLower (arg : Word) (s : State) : State :=
  let s := closeWindowOnMotion s
  match s.phases.phase with
  | .init | .unconfigured | .listen | .halted => s
  | .ready => changePhase .retract (takeTarget arg s)
  | .seek => changePhase .ready (takeTarget arg s)
  | .seated | .hold => changePhase .lower (takeTarget arg s)
  | .lift => changePhase .hold (takeTarget arg s)
  | .lower | .retract => takeTarget arg s

/-- LOWER (R71). -/
def execLower (s : State) : Answer := running s (handCommand .lower takeLower)

/-- HOLD by phase (R69, R73); the argument is not read. -/
def takeHold (_arg : Word) (s : State) : State :=
  match s.phases.phase with
  | .init | .unconfigured | .listen | .ready | .hold | .halted => s
  | .seek | .retract => changePhase .ready s
  | .seated | .lift | .lower => changePhase .hold s

/-- HOLD (R73). -/
def execHold (s : State) : Answer := running s (handCommand .hold takeHold)

/-- ESTOP by phase (R69, R76); the argument is not read. -/
def takeEstop (_arg : Word) (s : State) : State :=
  match s.phases.phase with
  | .init | .unconfigured | .listen => s
  | .ready | .seek | .seated | .lift | .hold | .lower | .retract | .halted =>
    report .estopCommand s

/-- ESTOP (R76). -/
def execEstop (s : State) : Answer := running s (handCommand .estop takeEstop)

/-- ACK in every phase (R77, R124): taken as an acknowledgement when its argument equals own epoch. -/
def takeAck (arg : Word) (s : State) : State :=
  if arg.toNat = s.phases.epoch.toNat then acknowledge s else s

/-- ACK (R124). -/
def execAck (s : State) : Answer := running s (handCommand .ack takeAck)

/-- SET_MARK (R45, R74): in HOLD with CONTACT set own height becomes the mark. -/
def takeSetMark (_arg : Word) (s : State) : State :=
  if s.phases.phase = .hold && s.sensors.contact then
    s.setPhases { s.phases with mark := s.sensors.height }
  else s

/-- SET_MARK (R74). -/
def execSetMark (s : State) : Answer := running s (handCommand .setMark takeSetMark)

/-- CLEAR_MARK (R45, R75): in READY or HOLD the mark is removed and AT_MARK cleared. -/
def takeClearMark (_arg : Word) (s : State) : State :=
  if s.phases.phase = .ready || s.phases.phase = .hold then
    if s.phases.mark.isSome then s.setPhases { s.phases with mark := none, atMark := false } else s
  else s

/-- CLEAR_MARK (R75). -/
def execClearMark (s : State) : Answer := running s (handCommand .clearMark takeClearMark)

/-- A command kind that names no command: 0 and 8 to 15 (R154). -/
def kindUndefined (code : BitVec 4) : Bool := code.toNat == 0 || 8 ≤ code.toNat

/-- A COMMAND frame of an undefined kind is handed on and discarded without effect (R68). -/
def handUndefined (s : State) : State :=
  match s.line.rxQueue with
  | .command _ code _ :: rest =>
    if kindUndefined code then s.setLine { s.line with rxQueue := rest } else s
  | _ => s

/-- COMMAND_KIND_UNDEFINED (R68). -/
def execCommandKindUndefined (s : State) : Answer := running s handUndefined

end Sys2Proof.Machine
end

