-- ==== Sys2Proof/Machine/GuardLines.lean ====
section
/-!
DEFINITION. The meanings of GUARD_ACTIVE_EDGE and GUARD_INACTIVE_EDGE (R140 to R148).
-/

namespace Sys2Proof.Machine

/-- A taken change sets the filtered level (R140). -/
def setLevel (i : Fin 8) (level : Bool) (s : State) : State :=
  s.setGuards { s.guards with levels := setBit8 s.guards.levels i level }

/-- A taken change to the active level (R140, R141). A line already at that level makes no change; a
disabled line only changes its level (R139). Without a valid configuration no line becomes active, so
the command names no event then (R142; log 19). -/
def activeEdge (i : Fin 8) (s : State) : State :=
  match s.store.active with
  | none => s
  | some c =>
    if s.guards.levels.getLsbD i.val = c.guardActiveLevel i then s
    else
      let s := setLevel i (c.guardActiveLevel i) s
      if c.guardEnabled i then guardEdge i s else s

/-- GUARD_ACTIVE_EDGE (R141). -/
def execGuardActiveEdge (line : Fin 8) (s : State) : Answer := running s (activeEdge line)

/-- A taken change to the inactive level (R141): the level changes and nothing else. Without a valid
configuration a line has no active level, and every taken change of it is of this kind (R140, R142;
log 19). -/
def inactiveEdge (i : Fin 8) (s : State) : State :=
  match s.store.active with
  | none => setLevel i (!s.guards.levels.getLsbD i.val) s
  | some c => setLevel i (!c.guardActiveLevel i) s

/-- GUARD_INACTIVE_EDGE (R141). -/
def execGuardInactiveEdge (line : Fin 8) (s : State) : Answer := running s (inactiveEdge line)

end Sys2Proof.Machine
end

