-- ==== Sys2Proof/Machine/Frames.lean ====
section
/-!
DEFINITION. The frames of the Lift Line as bytes: kinds, lengths and priorities (R151, R152), the
payload layouts (R153, R154), building a frame and the receiver's checks (R163).
-/

namespace Sys2Proof.Machine

/-- The seven frame kinds (R151). -/
inductive FrameKind where
  | status | command | configWrite | tolWrite | commit | restart | closeSetup
  deriving DecidableEq, Repr

/-- Kind codes (R151). -/
def FrameKind.code : FrameKind → BitVec 4
  | .status => 1#4 | .command => 2#4 | .configWrite => 8#4 | .tolWrite => 9#4 | .commit => 10#4
  | .restart => 11#4 | .closeSetup => 12#4

/-- The kind a code names; none for the undefined codes 0, 3 to 7 and 13 to 15 (R151). -/
def FrameKind.ofCode (c : BitVec 4) : Option FrameKind :=
  match c.toNat with
  | 1 => some .status | 2 => some .command | 8 => some .configWrite | 9 => some .tolWrite
  | 10 => some .commit | 11 => some .restart | 12 => some .closeSetup | _ => none

/-- Payload bytes of each kind (R151). -/
def FrameKind.payloadBytes : FrameKind → Nat
  | .status => 10 | .command => 4 | .configWrite => 4 | .tolWrite => 3 | .commit => 1
  | .restart => 1 | .closeSetup => 1

/-- Total bytes of each kind: two arbitration bytes, the payload, two check bytes (R151). -/
def FrameKind.totalBytes (k : FrameKind) : Nat := k.payloadBytes + 4

/-- Whether a priority suits a kind (R152, R163): 2 for STATUS, 0 or 1 for COMMAND, 3 for service
frames. -/
def FrameKind.suits (k : FrameKind) (priority : BitVec 2) : Bool :=
  match k with
  | .status => priority == 2#2
  | .command => priority == 0#2 || priority == 1#2
  | .configWrite | .tolWrite | .commit | .restart | .closeSetup => priority == 3#2

/-- What a frame carries in its payload (R153, R154). -/
inductive FrameBody where
  | status (fields : StatusFields)
  | command (kind : BitVec 4) (arg : Word)
  | configWrite (target : BitVec 6) (id : BitVec 8) (value : Word)
  | tolWrite (target : BitVec 6) (value : Word)
  | commit (target : BitVec 6)
  | restart (target : BitVec 6)
  | closeSetup (target : BitVec 6)
  deriving DecidableEq, Repr

/-- A frame as its arbitration bytes and its payload give it (R152). -/
structure LineFrame where
  priority : BitVec 2
  station : BitVec 6
  group : BitVec 4
  body : FrameBody
  deriving DecidableEq, Repr

/-- The eighty bits of a STATUS payload, first bit most significant, the unused five 0 (R153). -/
def StatusFields.bits (f : StatusFields) : BitVec 80 :=
  f.line ++ BitVec.ofBool f.side ++ f.phase ++ BitVec.ofBool f.contact ++
    BitVec.ofBool f.atTarget ++ BitVec.ofBool f.markSet ++ BitVec.ofBool f.atMark ++
    BitVec.ofBool f.setupOpen ++ f.height ++ f.load ++ f.haltKind ++ f.causeOrOrigin ++
    f.epoch ++ f.digest ++ f.resetCause ++ f.configResult ++ 0#5

/-- The STATUS fields of eighty payload bits; the unused bits are ignored (R153). -/
def StatusFields.ofBits (p : BitVec 80) : StatusFields :=
  { line := p.extractLsb' 75 5
    side := p.getLsbD 74
    phase := p.extractLsb' 70 4
    contact := p.getLsbD 69
    atTarget := p.getLsbD 68
    markSet := p.getLsbD 67
    atMark := p.getLsbD 66
    setupOpen := p.getLsbD 65
    height := p.extractLsb' 50 15
    load := p.extractLsb' 38 12
    haltKind := p.extractLsb' 36 2
    causeOrOrigin := p.extractLsb' 30 6
    epoch := p.extractLsb' 26 4
    digest := p.extractLsb' 10 16
    resetCause := p.extractLsb' 8 2
    configResult := p.extractLsb' 5 3 }

/-- The thirty-two bits of a COMMAND payload, spare bits 0 (R154). -/
def commandBits (kind : BitVec 4) (arg : Word) : BitVec 32 := kind ++ arg ++ 0#12

/-- The ten bytes of eighty bits, in the order they travel. -/
def bytes80 (p : BitVec 80) : List Byte :=
  [p.extractLsb' 72 8, p.extractLsb' 64 8, p.extractLsb' 56 8, p.extractLsb' 48 8,
    p.extractLsb' 40 8, p.extractLsb' 32 8, p.extractLsb' 24 8, p.extractLsb' 16 8,
    p.extractLsb' 8 8, p.extractLsb' 0 8]

/-- The four bytes of thirty-two bits, in the order they travel. -/
def bytes32 (p : BitVec 32) : List Byte :=
  [p.extractLsb' 24 8, p.extractLsb' 16 8, p.extractLsb' 8 8, p.extractLsb' 0 8]

/-- The body a payload of the kind's length gives (R153, R154); none for another length. -/
def decodeBody (k : FrameKind) (payload : List Byte) : Option FrameBody :=
  match k, payload with
  | .status, [b2, b3, b4, b5, b6, b7, b8, b9, b10, b11] =>
    some (.status (.ofBits (b2 ++ b3 ++ b4 ++ b5 ++ b6 ++ b7 ++ b8 ++ b9 ++ b10 ++ b11)))
  | .command, [b2, b3, b4, b5] =>
    let p : BitVec 32 := b2 ++ b3 ++ b4 ++ b5
    some (.command (p.extractLsb' 28 4) (p.extractLsb' 12 16))
  | .configWrite, [b2, b3, b4, b5] =>
    let p : BitVec 32 := b2 ++ b3 ++ b4 ++ b5
    some (.configWrite (p.extractLsb' 26 6) (p.extractLsb' 18 8) (p.extractLsb' 2 16))
  | .tolWrite, [b2, b3, b4] =>
    let p : BitVec 24 := b2 ++ b3 ++ b4
    some (.tolWrite (p.extractLsb' 18 6) (p.extractLsb' 2 16))
  | .commit, [b2] => some (.commit (b2.extractLsb' 2 6))
  | .restart, [b2] => some (.restart (b2.extractLsb' 2 6))
  | .closeSetup, [b2] => some (.closeSetup (b2.extractLsb' 2 6))
  | _, _ => none

/-- A whole frame: arbitration bytes priority × 64 + station and kind × 16 + group, the payload, and
the CRC over them, high byte first (R151, R152). -/
def buildFrame (priority : BitVec 2) (station : BitVec 6) (kind group : BitVec 4)
    (payload : List Byte) : List Byte :=
  let body := (priority ++ station) :: (kind ++ group) :: payload
  body ++ wordBytes (crc16 body)

/-- The bytes of a STATUS frame (R152, R153). -/
def statusFrameBytes (station : BitVec 6) (group : BitVec 4) (f : StatusFields) : List Byte :=
  buildFrame 2#2 station FrameKind.status.code group (bytes80 f.bits)

/-- The priority of a COMMAND frame: 0 for ESTOP, 1 otherwise (R152, R157). -/
def commandPriority : CommandKind → BitVec 2
  | .estop => 0#2
  | .raise | .lower | .hold | .ack | .setMark | .clearMark => 1#2

/-- The bytes of a COMMAND frame (R152, R154). -/
def commandFrameBytes (station : BitVec 6) (group : BitVec 4) (kind : CommandKind) (arg : Word) :
    List Byte :=
  buildFrame (commandPriority kind) station FrameKind.command.code group
    (bytes32 (commandBits kind.code arg))

/-- The receiver's checks of a complete frame (R163), in order: framing error or fewer than 5 bytes,
check bytes, kind, length, priority. A frame that passes is good. -/
def goodFrame (bytes : List Byte) (framingError : Bool) : Option LineFrame :=
  if framingError || bytes.length < 5 then none
  else
    let covered := bytes.take (bytes.length - 2)
    if bytes.drop (bytes.length - 2) != wordBytes (crc16 covered) then none
    else
      match covered with
      | a0 :: a1 :: payload =>
        match FrameKind.ofCode (a1.extractLsb' 4 4) with
        | none => none
        | some k =>
          if bytes.length != k.totalBytes then none
          else if !k.suits (a0.extractLsb' 6 2) then none
          else
            (decodeBody k payload).map (fun body =>
              { priority := a0.extractLsb' 6 2, station := a0.extractLsb' 0 6,
                group := a1.extractLsb' 0 4, body := body })
      | _ => none

end Sys2Proof.Machine
end

