-- ==== Sys2Proof/Machine/LiftLine.lean ====
section
/-!
DEFINITION. The meanings of the Line Interface's own events: FRAME_RECEIVED (R163 to R167), ATTEMPT
(R157), ATTEMPT_SUCCEEDS (R159), LOST_ARBITRATION (R155) and TRANSMIT_ERROR (R160).
-/

namespace Sys2Proof.Machine

/-! ### Receiving -/

/-- The group filter of STATUS and COMMAND frames (R164). -/
def groupPasses (s : State) (group : BitVec 4) : Bool :=
  match s.store.active with
  | none => false
  | some c => group == c.groupNo

/-- The filter of service frames (R164): from station 0, to own station strap (or 63 for CLOSE_SETUP
alone), in own group, or in group 0 while the column is in UNCONFIGURED. -/
def servicePasses (s : State) (station : BitVec 6) (group : BitVec 4) (target : BitVec 6)
    (toAll : Bool) : Bool :=
  station == 0#6 &&
    ((target == s.store.station && isColumnStation s.store.station) || (toAll && target == 63#6)) &&
    (groupPasses s group || (group == 0#4 && s.phases.phase == .unconfigured))

/-- A STATUS frame bears own station number, the strap in 1..48 (R165). -/
def isOwnStation (s : State) (station : BitVec 6) : Bool :=
  isColumnStation s.store.station && station == s.store.station

/-- A good frame is filtered by its kind (R164, R165) and joins the receive queue (R167) or is
dropped. A STATUS frame that bears own station number while the strap lies outside 1..48 is none of
R165's and joins the queue like every other, which is the model's choice (log 30). -/
def filterFrame (f : LineFrame) (s : State) : State :=
  match f.body with
  | .status fields =>
    if !groupPasses s f.group then s
    else if isOwnStation s f.station then report .duplicateStation s
    else arriveFrame (.status f.station fields) s
  | .command kind arg =>
    if groupPasses s f.group then arriveFrame (.command f.station kind arg) s else s
  | .configWrite target id value =>
    if servicePasses s f.station f.group target false then arriveFrame (.configWrite id value) s
    else s
  | .tolWrite target value =>
    if servicePasses s f.station f.group target false then arriveFrame (.tolWrite value) s else s
  | .commit target =>
    if servicePasses s f.station f.group target false then arriveFrame .commit s else s
  | .restart target =>
    if servicePasses s f.station f.group target false then arriveFrame .restart s else s
  | .closeSetup target =>
    if servicePasses s f.station f.group target true then arriveFrame .closeSetup s else s

/-- The transmitter is driving a frame (R156). -/
def TxState.isSending : TxState → Bool
  | .sendingCommand _ | .sendingStatus _ _ => true
  | .idle | .waiting | .disabled => false

/-- A frame on the line is complete (R163). The receiver takes none while its own transmitter drives,
and none that was under way when it began to wait for the idle line, after a reset (R168) or a
transmit error (R163); at the frame's end the line is idle (log 9). -/
def receiveFrame (bytes : List Byte) (framingError startedAtIdle : Bool) (s : State) : State :=
  if s.line.tx.isSending then s
  else
    let missed := s.line.rxWaitsIdle && !startedAtIdle
    let s := s.setLine { s.line with rxWaitsIdle := false }
    if missed then s
    else
      match goodFrame bytes framingError with
      | none => s
      | some f => filterFrame f s

/-- FRAME_RECEIVED (R163). -/
def execFrameReceived (bytes : List Byte) (framingError startedAtIdle : Bool) (s : State) : Answer :=
  running s (receiveFrame bytes framingError startedAtIdle)

/-! ### Transmitting -/

/-- An attempt begins on an idle line (R156, R157): the head command if the queue holds one, else the
status frame, its fields taken at this moment. -/
def beginAttempt (s : State) : State :=
  if s.line.tx = .waiting then
    match s.line.queue with
    | q :: rest =>
      s.setLine
        { s.line with
          tx := .sendingCommand (commandFrameBytes s.store.station (ownGroup s) q.kind q.arg)
          queue := { q with sending := true } :: rest
          rxWaitsIdle := false }
    | [] =>
      if s.line.slot then
        s.setLine
          { s.line with
            tx :=
              .sendingStatus (statusFrameBytes s.store.station (ownGroup s) (statusFields s)) false
            rxWaitsIdle := false }
      else s
  else s

/-- ATTEMPT (R157). -/
def execAttempt (s : State) : Answer := running s beginAttempt

/-- No command of the queue is being sent any more. -/
def unmarkSending (queue : List TxCommand) : List TxCommand :=
  queue.map (fun q => { q with sending := false })

/-- The command being sent, and the queue without it (R159). -/
def sentCommand (queue : List TxCommand) : Option TxCommand := queue.find? (fun q => q.sending)

/-- WAITING with more to send, IDLE otherwise (R156, R159). -/
def txAfter (queue : List TxCommand) (slot : Bool) : TxState :=
  if queue.isEmpty && !slot then .idle else .waiting

/-- An attempt succeeds (R159): a command sent leaves the queue and a copy arrives in the column's own
receive queue; a status frame sent empties the slot unless it was filled again, and the status timer
restarts. -/
def attemptSucceeds (s : State) : State :=
  match s.line.tx with
  | .sendingCommand _ =>
    let queue := s.line.queue.eraseP (fun q => q.sending)
    let sent := sentCommand s.line.queue
    let s :=
      s.setLine { s.line with errors := 0, queue := queue, tx := txAfter queue s.line.slot }
    match sent with
    | some q => arriveFrame (.command s.store.station q.kind.code q.arg) s
    | none => s
  | .sendingStatus _ refilled =>
    s.setLine
      { s.line with
        errors := 0
        slot := refilled
        statusTimer := statusPeriodMs
        tx := txAfter s.line.queue refilled }
  | .idle | .waiting | .disabled => s

/-- ATTEMPT_SUCCEEDS (R159). -/
def execAttemptSucceeds (s : State) : Answer := running s attemptSucceeds

/-- Arbitration is lost (R155): the line is released, the frame stays for the next idle, and the
column becomes a receiver of the winning frame; no transmit error. -/
def loseArbitration (s : State) : State :=
  if s.line.tx.isSending then
    s.setLine { s.line with tx := .waiting, queue := unmarkSending s.line.queue }
  else s

/-- LOST_ARBITRATION (R155). -/
def execLostArbitration (s : State) : Answer := running s loseArbitration

/-- A transmit error (R160): the attempt is abandoned, the count rises, and at 8 the queue is emptied,
the transmitter DISABLED and LINE_FAULT reported. The receiver takes nothing of the rest of the frame
(R163). -/
def transmitError (s : State) : State :=
  if s.line.tx.isSending then
    let n := min (s.line.errors + 1) maxTransmitErrors
    if n = maxTransmitErrors then
      report .lineFault
        (s.setLine
          { s.line with errors := n, queue := [], tx := .disabled, rxWaitsIdle := true })
    else
      s.setLine
        { s.line with
          errors := n, queue := unmarkSending s.line.queue, tx := .waiting, rxWaitsIdle := true }
  else s

/-- TRANSMIT_ERROR (R160). -/
def execTransmitError (s : State) : Answer := running s transmitError

end Sys2Proof.Machine
end

