-- ==== Sys2Proof/Machine/PeerStatus.lean ====
section
/-!
DEFINITION. The meanings of SILENCE_SCAN_EXPIRY (R12, R13) and STATUS (R3 to R11, R19), with what the
Phase Controller does on the Peer Table's notices (R56, R63, R127 to R129).
-/

namespace Sys2Proof.Machine

/-! ### Notices -/

/-- The moving and loaded phases in which peer notices latch causes (R63). -/
def Phase.latchesPeerNotices : Phase → Bool
  | .seek | .seated | .lift | .hold | .lower | .retract => true
  | .init | .unconfigured | .listen | .ready | .halted => false

/-- A LOST notice acts by phase (R13, R63). The entry into LISTEN from READY makes no completeness test:
R51 and R52 hold the group incomplete there, which it need not be when the lost entry was a mismatched
stray on a line not enabled here (R4); that the column then stays in LISTEN is the model's choice, and
so is that the loss of such a stray in LISTEN, where a LOST notice has no effect (R50), leaves the
column there until a completion notice (log 26). -/
def lostNotice (s : State) (_station : Nat) : State :=
  match s.phases.phase with
  | .ready => changePhase .listen s
  | .seek | .seated | .lift | .hold | .lower | .retract | .halted => report .peerSilent s
  | .init | .unconfigured | .listen => s

/-- A restarted notice acts by phase (R10, R63). -/
def restartedNotice (s : State) : State :=
  if s.phases.phase.latchesPeerNotices then report .peerRestarted s else s

/-- A mismatch notice acts by phase (R11, R63). -/
def mismatchNotice (s : State) : State :=
  if s.phases.phase.latchesPeerNotices then report .configMismatch s else s

/-- The epoch item: adopted in INIT, LISTEN and UNCONFIGURED (R128); elsewhere own + 1 counts as an
acknowledgement taken (R127). -/
def epochItem (epoch : BitVec 4) (s : State) : State :=
  if s.phases.phase.isStarting then s.setPhases { s.phases with epoch := epoch }
  else if epoch = s.phases.epoch + 1#4 then acknowledge s
  else s

/-- The halt item (R129): LOCAL at own epoch, outside the starting phases, latches a peer halt. -/
def haltItem (station : Nat) (epoch : BitVec 4) (halt : HaltReport) (s : State) : State :=
  match halt with
  | .localCause _ =>
    if epoch = s.phases.epoch && !s.phases.phase.isStarting then latchPeerHalt station s else s
  | .none => s
  | .peerOrigin _ => s

/-- The completion notice (R19, R51, R63). -/
def completionNotice (s : State) : State :=
  if s.phases.phase = .listen then leaveListen s else s

/-- The items of one stored frame in the order of R9, and the seating evaluation at their end
(R56). -/
def statusNotice (entry : PeerEntry) (restarted wasComplete : Bool) (s : State) : State :=
  let s := epochItem entry.epoch s
  let s := if restarted then restartedNotice s else s
  let s := if entry.digestMatch then s else mismatchNotice s
  let s := haltItem entry.station entry.epoch entry.halt s
  let s := if !wasComplete && groupComplete s then completionNotice s else s
  evaluateSeating s

/-! ### STATUS -/

/-- A stored frame gives a restarted notice (R10): it creates an entry, finds it LOST or in another
kind of phase, and reports a starting phase; or it moves the entry's claim. -/
def isRestart (old : Option PeerEntry) (r : PeerReport) : Bool :=
  match old with
  | none => r.phase.isStarting
  | some e =>
    (r.phase.isStarting && (!e.phase.isStarting || e.presence == .lost)) ||
      e.line != r.line || e.side != r.side

/-- The frame needs the clash check (R6, R8): it creates an entry or moves one. -/
def needsClashCheck (old : Option PeerEntry) (r : PeerReport) : Bool :=
  match old with
  | none => true
  | some e => e.line != r.line || e.side != r.side

/-- A report is stored and its notices handed on (R6 to R9), the set-at-target condition re-evaluated
at the storing (R87). -/
def storeReport (c : ConfigValues) (station : Nat) (r : PeerReport) (s : State) : State :=
  let old := findPeer s.peers station
  let wasComplete := groupComplete s
  let entry := entryOf station c.fields.silenceLimit.toNat r
  let s := updateBlink (s.setPeers (storePeer entry s.peers))
  statusNotice entry (isRestart old r) wasComplete s

/-- The Peer Table takes a STATUS frame (R3 to R8). -/
def takeStatus (station : BitVec 6) (f : StatusFields) (s : State) : State :=
  match s.store.active with
  | none => s
  | some c =>
    if !isColumnStation station || station == s.store.station then s
    else
      match reportOf s.store.ownDigest f with
      | none => s
      | some r =>
        if needsClashCheck (findPeer s.peers station.toNat) r &&
            positionClaimed c s.peers station.toNat r.line r.side then
          report .positionClash s
        else storeReport c station.toNat r s

/-- The oldest frame of the receive queue, a STATUS frame, is handed to the Peer Table (R166); with
another frame in front or none this is no event (log 2, log 6). -/
def handStatus (s : State) : State :=
  match s.line.rxQueue with
  | .status station f :: rest =>
    takeStatus station f (s.setLine { s.line with rxQueue := rest })
  | _ => s

/-- STATUS (R7). -/
def execStatus (s : State) : Answer := running s handStatus

/-! ### Silence scan -/

/-- The scan (R12, R13): every PRESENT entry is aged, set at target re-evaluated (R87), and the LOST
notices handed on in ascending station order; the timer restarts. -/
def silenceScan (s : State) : State :=
  let lost := lostByScan s.peers
  let s := (s.setScanTimer silenceScanMs).setPeers (s.peers.map agePeer)
  let s := if lost.isEmpty then s else updateBlink s
  lost.foldl lostNotice s

/-- SILENCE_SCAN_EXPIRY (R12). -/
def execSilenceScanExpiry (s : State) : Answer := running s silenceScan

end Sys2Proof.Machine
end

