-- ==== Sys2Proof/Machine/PendantButtons.lean ====
section
/-!
DEFINITION. The meanings of the pendant's commands (R79 to R85). A change to the level a line already
has is no taken change and has no effect (log 2).
-/

namespace Sys2Proof.Machine

/-- Button changes are acted on only with a pendant present and outside INIT and UNCONFIGURED
(R80). -/
def pendantActs (s : State) : Bool :=
  s.pendant.present && s.phases.phase != .init && s.phases.phase != .unconfigured

/-- The filtered level of a motion button (R79). -/
def buttonLevel (s : State) : MotionButton → Bool
  | .raise => s.pendant.raise
  | .lower => s.pendant.lower

/-- The other motion button. -/
def otherButton : MotionButton → MotionButton
  | .raise => .lower
  | .lower => .raise

/-- A taken change of a motion button enters its filtered level (R79). -/
def setButton (button : MotionButton) (pressed : Bool) (s : State) : State :=
  match button with
  | .raise => s.setPendant { s.pendant with raise := pressed }
  | .lower => s.setPendant { s.pendant with lower := pressed }

/-- The held motion button is set (R81 to R84). -/
def setHeld (button : Option MotionButton) (s : State) : State :=
  s.setPendant { s.pendant with held := button }

/-- The command kind of a motion button. -/
def buttonCommand : MotionButton → CommandKind
  | .raise => .raise
  | .lower => .lower

/-- The target a motion button's command carries: H_WORK or H_REST (R81). -/
def buttonTarget (s : State) (button : MotionButton) : Word :=
  match s.store.active, button with
  | some c, .raise => c.fields.hWork
  | some c, .lower => c.fields.hRest
  | none, _ => 0#16

/-- A taken press that is acted on (R81, R83). -/
def actOnPress (button : MotionButton) (s : State) : State :=
  if s.pendant.lockout then s
  else if buttonLevel s (otherButton button) then
    requestCommand .hold 0#16
      (s.setPendant { s.pendant with held := none, lockout := true })
  else setHeld (some button) (requestCommand (buttonCommand button) (buttonTarget s button) s)

/-- A taken press of a motion button (R80, R81, R83). -/
def pressMotion (button : MotionButton) (s : State) : State :=
  if buttonLevel s button then s
  else
    let s := setButton button true s
    if pendantActs s then actOnPress button s else s

/-- MOTION_BUTTON_PRESS (R81). -/
def execMotionButtonPress (button : MotionButton) (s : State) : Answer :=
  running s (pressMotion button)

/-- A taken release that is acted on (R82, R83): under a lockout it requests nothing and may end the
lockout; otherwise the release of the held motion button requests HOLD. -/
def actOnRelease (button : MotionButton) (s : State) : State :=
  if s.pendant.lockout then
    if !s.pendant.raise && !s.pendant.lower then
      s.setPendant { s.pendant with lockout := false }
    else s
  else if s.pendant.held = some button then setHeld none (requestCommand .hold 0#16 s)
  else s

/-- A taken release of a motion button (R80, R82, R83). -/
def releaseMotion (button : MotionButton) (s : State) : State :=
  if !buttonLevel s button then s
  else
    let s := setButton button false s
    if pendantActs s then actOnRelease button s else s

/-- DEAD_MAN_RELEASE (R82). -/
def execDeadManRelease (button : MotionButton) (s : State) : Answer :=
  running s (releaseMotion button)

/-- A taken press of ACK (R85): ACK with own epoch. -/
def pressAck (s : State) : State :=
  if s.pendant.ack then s
  else
    let s := s.setPendant { s.pendant with ack := true }
    if pendantActs s then requestCommand .ack (s.phases.epoch.setWidth 16) s else s

/-- ACK_BUTTON_PRESS (R85). -/
def execAckButtonPress (s : State) : Answer := running s pressAck

/-- A taken press of MARK (R85): CLEAR_MARK when a mark is held, SET_MARK otherwise. -/
def pressMark (s : State) : State :=
  if s.pendant.mark then s
  else
    let s := s.setPendant { s.pendant with mark := true }
    if pendantActs s then
      requestCommand (if s.phases.mark.isSome then .clearMark else .setMark) 0#16 s
    else s

/-- MARK_BUTTON_PRESS (R85). -/
def execMarkButtonPress (s : State) : Answer := running s pressMark

/-- A taken release of ACK or MARK enters the filtered level and requests nothing (R85). -/
def releaseSide (button : SideButton) (s : State) : State :=
  match button with
  | .ack => s.setPendant { s.pendant with ack := false }
  | .mark => s.setPendant { s.pendant with mark := false }

/-- ACK_OR_MARK_RELEASE (R85). -/
def execAckOrMarkRelease (button : SideButton) (s : State) : Answer :=
  running s (releaseSide button)

/-- P_PRESENT becomes absent (R84): HOLD if a motion button is held, and any lockout is cleared. -/
def removePendant (s : State) : State :=
  if !s.pendant.present then s
  else
    let heldOne := s.pendant.held.isSome
    let s := s.setPendant { s.pendant with present := false, held := none, lockout := false }
    if heldOne then requestCommand .hold 0#16 s else s

/-- PENDANT_REMOVED (R84). -/
def execPendantRemoved (s : State) : Answer := running s removePendant

/-- P_PRESENT becomes present (R84): nothing is requested. -/
def plugPendant (s : State) : State := s.setPendant { s.pendant with present := true }

/-- PENDANT_PLUGGED (R84). -/
def execPendantPlugged (s : State) : Answer := running s plugPendant

end Sys2Proof.Machine
end

