-- ==== Sys2Proof/Machine/Reset.lean ====
section
/-!
DEFINITION. The meanings of RESET (R183 to R185) and RESET_APPLIED (R118, R168, R180, R183).
-/

namespace Sys2Proof.Machine

/-- A reset is released (R183, R184), whether or not RESET_APPLIED came before it: with another still
applied the part stays held, and will start from that one's release; else the column starts, and the
kind is recorded (log 28). -/
def release (kind : ResetKind) (inputs : SampledInputs) (s : State) : State :=
  if 1 < s.resetsApplied then s.setResetsApplied (s.resetsApplied - 1) else resetPart kind inputs s

/-- RESET (R184). -/
def execReset (kind : ResetKind) (inputs : SampledInputs) (s : State) : Answer :=
  .next (release kind inputs s)

/-- A reset begins to be applied (R118): the drive lines take their reset values, the transmitter
releases the line (R168), a transfer in flight is ended (R105) and a commit in flight leaves the
record broken (R180); the part is held until every reset applied is released (R183, log 28). What the
release sets anew anyway is left as it stands (log 8). -/
def applyReset (s : State) : State :=
  { s with
    drive := driveAfterReset
    sensors := { s.sensors with port := .idle }
    line :=
      { s.line with
        tx := if s.line.tx.isSending then .waiting else s.line.tx
        queue := unmarkSending s.line.queue }
    store :=
      { s.store with record := recordAtReset s, commit := .idle, writeTimer := none }
    resetsApplied := min (s.resetsApplied + 1) resetSources }

/-- RESET_APPLIED (R118). -/
def execResetApplied (s : State) : Answer := .next (applyReset s)

end Sys2Proof.Machine
end

