-- ==== Sys2Proof/Machine/Operands.lean ====
section
/-!
DEFINITION. The operand forms of the sensor port: the position word and its check, the load word, and
their scaling to heights and loads (R94, R95, R98).
-/

namespace Sys2Proof.Machine

/-- An integer replaced by the nearer end of 0..hi when it lies outside (00_scope.md section 5). -/
def clampTo (hi : Nat) (x : Int) : Nat := min x.toNat hi

/-- The count p of a position word: its first sixteen bits (R94). -/
def positionCount (w : BitVec 18) : Nat := (w.extractLsb' 2 16).toNat

/-- The error bit of a position word, the seventeenth clocked in (R94). -/
def positionError (w : BitVec 18) : Bool := w.getLsbD 1

/-- How many of the eighteen bits are ones (R94). -/
def onesIn (w : BitVec 18) : Nat := (List.range 18).countP (fun i => w.getLsbD i)

/-- A word is valid when its error bit is clear and its number of ones is odd (R94). -/
def positionValid (w : BitVec 18) : Bool := !positionError w && onesIn w % 2 == 1

/-- The height a valid word gives (R95): (p − POS_ZERO) × 100 / POS_SCALE, truncated toward zero,
clamped to 0..24 000. -/
def scaleHeight (c : ConfigValues) (p : Nat) : Nat :=
  clampTo maxHeight
    ((((p : Int) - (c.fields.posZero.toNat : Int)) * 100).tdiv (c.fields.posScale.toNat : Int))

/-- The scaled load w (R98): (r − LOAD_ZERO) × LOAD_SPAN / 1 024, truncated toward zero, clamped to
0..4 000. -/
def scaleLoad (c : ConfigValues) (r : Nat) : Nat :=
  clampTo maxLoad
    ((((r : Int) - (c.fields.loadZero.toNat : Int)) * (c.fields.loadSpan.toNat : Int)).tdiv 1024)

/-- A raw load of 4 095 is saturated (R98). -/
def loadSaturated (w : BitVec 12) : Bool := w == 4095#12

/-- The load that is stored (R98): w, or for a saturated sample the larger of w and W_CAPACITY. -/
def storedLoad (c : ConfigValues) (w : BitVec 12) : Nat :=
  if loadSaturated w then max (scaleLoad c w.toNat) c.tol.wCapacity.toNat
  else scaleLoad c w.toNat

end Sys2Proof.Machine
end

