-- ==== Sys2Proof/Machine/FollowLaw.lean ====
section
/-!
DEFINITION. The Level Follower: spread check (R40), arrival test (R31, R32), follow law
(R25 to R30, R33 to R35), the demands of SEEK and RETRACT (R36), ramp (R37, R38), duty (R39), handing
the demand to the Drive Output (R110), and its whole work at a position sample (R22, R23).
-/

namespace Sys2Proof.Machine

/-! ### Spread -/

/-- The spread heights: own, and every PRESENT entry with CONTACT (R40). -/
def spreadHeights (s : State) : List Nat :=
  ownHeight s :: ((presentPeers s.peers).filter (fun e => e.contact)).map (·.height)

/-- Highest less lowest of a list of heights that holds `h`. -/
def spreadOf (h : Nat) (hs : List Nat) : Nat := hs.foldl max h - hs.foldl min h

/-- The spread check, made in the loaded phases (R22, R40). -/
def spreadCheck (s : State) : State :=
  match s.store.active with
  | none => s
  | some c =>
    if s.phases.phase.isLoaded &&
        2 * c.tol.aGroup.toNat < spreadOf (ownHeight s) (spreadHeights s) then
      report .spread s
    else s

/-! ### Arrival -/

/-- The effective target of a phase and whether it is the mark (R31). In LIFT, LOWER and RETRACT a
target is always in force (R44); with none the column counts as standing at it (log 12). -/
def effectiveTarget (s : State) : Nat × Bool :=
  let target := s.phases.target.getD (ownHeight s)
  match s.phases.phase, s.phases.mark with
  | .lower, some mark => if target < mark then (mark, true) else (target, false)
  | _, _ => (target, false)

/-- The distance d still to go (R32). -/
def distanceToGo (s : State) : Int :=
  let goal : Int := (effectiveTarget s).1
  match s.phases.phase.direction with
  | some .up => goal - (ownHeight s : Int)
  | _ => (ownHeight s : Int) - goal

/-- The arrival test (R32), made in LIFT, LOWER and RETRACT. -/
def hasArrived (s : State) : Bool :=
  match s.phases.phase with
  | .lift => distanceToGo s ≤ (arrivalBand : Int)
  | .lower | .retract => distanceToGo s ≤ (arrivalBand : Int) || bottomActive s
  | .init | .unconfigured | .listen | .ready | .seek | .seated | .hold | .halted => false

/-! ### Follow law -/

/-- Which reports count: in LIFT every one (R25); in LOWER those of members in LOWER, HOLD or SEATED
(R26). -/
def reportCounts (phase : Phase) (e : PeerEntry) : Bool :=
  match phase with
  | .lower => e.phase == .lower || e.phase == .hold || e.phase == .seated
  | _ => true

/-- The heights of the counted neighbours; none when a slot of the neighbourhood is unfilled or LOST,
which makes the neighbour ratio 0 (R27). -/
def neighbourHeights (c : ConfigValues) (peers : List PeerEntry) (phase : Phase) :
    List Slot → Option (List Nat)
  | [] => some []
  | slot :: rest =>
    match slotState c peers slot, neighbourHeights c peers phase rest with
    | _, none => none
    | .absent, some hs => some hs
    | .unfilled, some _ => none
    | .lost _, some _ => none
    | .present e, some hs => if reportCounts phase e then some (e.height :: hs) else some hs

/-- The heights of the counted group members (R20, R25, R26). -/
def groupHeights (peers : List PeerEntry) (phase : Phase) : List Nat :=
  ((presentPeers peers).filter (reportCounts phase)).map (·.height)

/-- The lead of `h` over the lowest (raising, R28) or the highest (lowering, R29) of the counted
heights, own height among them. -/
def leadOver (direction : Option Direction) (h : Nat) (hs : List Nat) : Nat :=
  match direction with
  | some .up => h - hs.foldl min h
  | _ => hs.foldl max h - h

/-- A follow ratio out of 1 024 (R30): (allowance − lead) × 1 024 / allowance, truncated toward zero,
clamped to 0..1 024. -/
def followRatio (allowance lead : Nat) : Nat :=
  clampTo 1024 ((((allowance : Int) - (lead : Int)) * 1024).tdiv (allowance : Int))

/-- r, the smaller of r_local and r_group (R30), r_local being 0 where R27 makes it so. -/
def governingRatio (c : ConfigValues) (s : State) : Nat :=
  let phase := s.phases.phase
  let rLocal :=
    match neighbourHeights c s.peers phase allSlots with
    | none => 0
    | some hs => followRatio c.tol.aLocal.toNat (leadOver phase.direction (ownHeight s) hs)
  let rGroup :=
    followRatio c.tol.aGroup.toNat
      (leadOver phase.direction (ownHeight s) (groupHeights s.peers phase))
  min rLocal rGroup

/-- v_follow (R30): V_NOM × r / 1 024. -/
def followSpeed (c : ConfigValues) (s : State) : Nat :=
  c.fields.vNom.toNat * governingRatio c s / 1024

/-- v_app (R33): the smaller of V_NOM and 4 × d. -/
def approachSpeed (c : ConfigValues) (d : Int) : Nat := min c.fields.vNom.toNat (4 * d).toNat

/-- The creep floor (R34): a speed of 0 stays 0, one below V_CREEP becomes V_CREEP. -/
def creepFloor (c : ConfigValues) (v : Nat) : Nat :=
  if v = 0 then 0 else max v c.fields.vCreep.toNat

/-- The speed before the ramp in the phase that stands, the column not having arrived
(R23, R34, R36). -/
def wantedSpeed (c : ConfigValues) (s : State) : Nat :=
  match s.phases.phase with
  | .lift | .lower => creepFloor c (min (followSpeed c s) (approachSpeed c (distanceToGo s)))
  | .seek => c.fields.vCreep.toNat
  | .retract => creepFloor c (approachSpeed c (distanceToGo s))
  | .init | .unconfigured | .listen | .ready | .seated | .hold | .halted => 0

/-- The ramp (R37): a rise of at most RAMP_STEP, a fall at once. -/
def ramp (step prev v : Nat) : Nat := if prev < v then min v (prev + step) else v

/-- The duty of a demand (R39). -/
def dutyOf (c : ConfigValues) (demand : Nat) : Nat :=
  min (demand * 1000 / c.fields.vDriveMax.toNat) maxDuty

/-! ### Handing the demand -/

/-- The duty line after a demand (R110). -/
def dutyAfterDemand (drive : DriveBlock) (demand : Demand) : Nat :=
  if drive.state = .running && demand.direction == some drive.direction then demand.duty else 0

/-- The demand is handed: the follower keeps it as previous demand and as the demand last handed
(R37, R41), the Drive Output restarts its demand timer and sets the duty line (R110). -/
def handDemand (demand : Demand) (s : State) : State :=
  (s.setFollower { s.follower with prevDemand := demand.speed, lastDemand := demand }).setDrive
    { s.drive with
      demandTimer := some demandTimeoutMs
      duty := dutyAfterDemand s.drive demand }

/-- The demand of a stopped phase: 0, with no direction (R23). -/
def stoppedDemand : Demand := { speed := 0, direction := none, duty := 0 }

/-- The demand for the phase `before` read at step 2, with the ramp's inputs as `now` holds them at
step 4 (R22, R23, R37, R38, R39). -/
def demandFor (c : ConfigValues) (arrived : Bool) (before now : State) : Demand :=
  if before.phases.phase.isMotion then
    let v := if arrived then 0 else wantedSpeed c before
    let speed :=
      if now.drive.state = .dwell then 0
      else ramp c.fields.rampStep.toNat now.follower.prevDemand v
    { speed := speed, direction := before.phases.phase.direction, duty := dutyOf c speed }
  else stoppedDemand

/-- The follower's work at a position sample, steps 1 to 5 of R22. Without a valid configuration the
column stands in INIT or UNCONFIGURED, where the demand is 0 (R23, R103). -/
def followSample (s : State) : State :=
  let s := spreadCheck s
  let arrived := hasArrived s
  let now := if arrived then arrive (effectiveTarget s).2 s else s
  match s.store.active with
  | none => handDemand stoppedDemand now
  | some c => handDemand (demandFor c arrived s now) now

end Sys2Proof.Machine
end

