-- ==== Sys2Proof/Machine/MotionChecks.lean ====
section
/-!
DEFINITION. The three motion checks at a position sample: stall (R132 to R134), wrong direction (R135)
and drift (R137), in the order the sample's operand gives (log 4),
and with "brake set" before the sample or after it (log 29).
-/

namespace Sys2Proof.Machine

/-- How far two heights differ. -/
def heightGap (a b : Nat) : Nat := (a - b) + (b - a)

/-- V_CREEP of the active configuration; the checks are armed only with one. -/
def creepSpeed (s : State) : Nat := (s.store.active.map (fun c => c.fields.vCreep.toNat)).getD 0

/-! ### Stall and wrong direction -/

/-- The sample of height `h` counts for the stall check (R133): armed with a reference, asked for creep
or more, and not moved. D is the demand the follower last handed (log 13). -/
def stallCounts (h : Nat) (s : State) : Bool :=
  match s.follower.stallRef with
  | none => false
  | some ref =>
    s.checks.stallArmed && creepSpeed s ≤ s.follower.lastDemand.speed &&
      heightGap h ref < stallMovement

/-- The count reaches 150 at the sample (R134). -/
def stallDue (h : Nat) (s : State) : Bool :=
  stallCounts h s && stallSamples ≤ s.follower.stallCounter + 1

/-- The stall check at a valid sample of height `h` (R133, R134). -/
def stallCheck (h : Nat) (s : State) : State :=
  if !s.checks.stallArmed then s
  else
    let taken := s.setFollower { s.follower with stallRef := some h, stallCounter := 0 }
    if stallDue h s then report .stall taken
    else if stallCounts h s then
      s.setFollower { s.follower with stallCounter := s.follower.stallCounter + 1 }
    else taken

/-- The height `h` lies 4 or more against the watched direction (R135). -/
def wrongDirectionDue (h : Nat) (s : State) : Bool :=
  match s.checks.watched, s.checks.extreme with
  | some .up, some x => h + wrongWay ≤ x
  | some .down, some x => x + wrongWay ≤ h
  | _, _ => false

/-- The extreme after a sample of height `h` (R135). -/
def extremeAfter (h : Nat) (c : CheckBlock) : Option Nat :=
  match c.watched, c.extreme with
  | none, x => x
  | some _, none => some h
  | some .up, some x => some (max x h)
  | some .down, some x => some (min x h)

/-- The wrong-direction check at a valid sample of height `h` (R135). -/
def wrongDirectionCheck (h : Nat) (s : State) : State :=
  if wrongDirectionDue h s then report .wrongDirection s
  else s.setChecks { s.checks with extreme := extremeAfter h s.checks }

/-! ### A sample and "brake set" together -/

/-- "Brake set" has come about since the sample was handed with the part in `start`: at a position
sample every change of phase of a column whose brake is released takes it out of its motion phase
(R32, R53, R64), and so back to STOPPED (R111). -/
def brakeSetSince (start s : State) : Bool :=
  start.drive.state != .stopped && s.phases.phase != start.phases.phase

/-- The part as a sample that comes before "brake set" finds it (R134, R135): the items of the two checks
as they stood when the sample was handed, and the demand the operand names. -/
def asHanded (brake : BrakeOrder) (start s : State) : State :=
  { s with
    checks := start.checks
    follower :=
      { s.follower with
        stallRef := start.follower.stallRef
        stallCounter := start.follower.stallCounter
        lastDemand :=
          if brake = .sampleFirstEarlierDemand then start.follower.lastDemand
          else s.follower.lastDemand } }

/-- A check takes the sample (R134, R135; log 29). A sample that comes before a "brake set" which has
come about since is tested as it was handed, and a report joins the halt; what the check counts or
notes is gone with that "brake set". -/
def takeCheck (brake : BrakeOrder) (start : State) (due : State → Bool) (cause : Cause)
    (check : State → State) (s : State) : State :=
  if brake != .brakeSetFirst && brakeSetSince start s then
    if due (asHanded brake start s) then report cause s else s
  else check s

/-- The stall check takes the sample (R133, R134). -/
def takeStall (brake : BrakeOrder) (start : State) (h : Nat) (s : State) : State :=
  takeCheck brake start (stallDue h) .stall (stallCheck h) s

/-- The wrong-direction check takes the sample (R135). -/
def takeWrongDirection (brake : BrakeOrder) (start : State) (h : Nat) (s : State) : State :=
  takeCheck brake start (wrongDirectionDue h) .wrongDirection (wrongDirectionCheck h) s

/-! ### Drift -/

/-- DRIFT_LIMIT of the active configuration; a drift reference is held only with one. -/
def driftLimit (s : State) : Nat :=
  (s.store.active.map (fun c => c.tol.driftLimit.toNat)).getD 0

/-- The drift check at a valid sample of height `h` (R137). -/
def driftCheck (h : Nat) (s : State) : State :=
  match s.checks.driftRef with
  | none => s
  | some ref => if driftLimit s < heightGap h ref then report .drift s else s

/-! ### The three checks -/

/-- The motion checks at a position sample that was handed with the part in `start` (R131): an invalid
sample is left out of all three. -/
def checkMotion (valid : Bool) (order : SampleOrder) (start s : State) : State :=
  match valid, s.sensors.height with
  | true, some h =>
    driftCheck h
      (if order.stallFirst then
        takeWrongDirection order.brake start h (takeStall order.brake start h s)
      else takeStall order.brake start h (takeWrongDirection order.brake start h s))
  | _, _ => s

end Sys2Proof.Machine
end

