-- ==== Sys2Proof/Machine/Sensing.lean ====
section
/-!
DEFINITION. The meanings of CONTROL_PERIOD_EXPIRY (R89 to R92), POSITION_COMPLETION (R93 to R97) and
LOAD_COMPLETION (R98 to R103), with the phase rules a sample drives (R46, R47, R53, R54, R62).
-/

namespace Sys2Proof.Machine

/-! ### The shared port -/

/-- The arbiter (R92): with the port IDLE the pending position request is served first. -/
def startTransfer (s : State) : State :=
  if s.sensors.port = .idle then
    if s.sensors.positionRequest then
      s.setSensors { s.sensors with positionRequest := false, port := .position }
    else if s.sensors.loadRequest then
      s.setSensors { s.sensors with loadRequest := false, port := .load }
    else s
  else s

/-- The expiry is an overrun (R90): the last position request has not completed. -/
def isOverrun (s : State) : Bool := s.sensors.positionRequest || s.sensors.port == .position

/-- The overrun test (R90), with SENSOR_STALE at a count of 3 (R91). -/
def testOverrun (s : State) : State :=
  if isOverrun s then
    let n := min (s.sensors.overrunCount + 1) badSampleLimit
    let s := s.setSensors { s.sensors with overrunCount := n }
    if n = badSampleLimit then report .sensorStale s else s
  else s

/-- The four steps of a control period expiry (R89). -/
def controlPeriod (s : State) : State :=
  let s := s.setSensors { s.sensors with controlTimer := controlPeriodMs }
  let s := testOverrun s
  let s := s.setSensors { s.sensors with positionRequest := true, loadRequest := true }
  startTransfer s

/-- CONTROL_PERIOD_EXPIRY (R89). -/
def execControlPeriodExpiry (s : State) : Answer := running s controlPeriod

/-! ### Phase rules at a sample -/

/-- The exit from INIT (R47): for UNCONFIGURED at a position sample without a usable configuration or
station, otherwise for LISTEN when both sensors have been seen. -/
def exitInit (atPosition : Bool) (s : State) : State :=
  if s.store.active.isNone || !isColumnStation s.store.station then
    if atPosition then changePhase .unconfigured s else s
  else if s.phases.positionSeen && s.phases.loadSeen then enterListenFromInit s
  else s

/-- Travel since the seek start exceeds SEEK_MAX (R54). -/
def seekTooFar (s : State) : Bool :=
  match s.store.active with
  | none => false
  | some c =>
    s.phases.seekStart.getD (ownHeight s) + c.tol.seekMax.toNat < ownHeight s

/-- The phase rules at a position sample (R97): start progress and exit from INIT (R46, R47), contact
test and then travel test in SEEK (R53, R54; log 15). -/
def positionRules (valid : Bool) (s : State) : State :=
  match s.phases.phase with
  | .init =>
    exitInit true
      (if valid then s.setPhases { s.phases with positionSeen := true } else s)
  | .seek =>
    if s.sensors.contact then enterSeated s
    else if seekTooFar s then report .noContact s
    else s
  | .unconfigured | .listen | .ready | .seated | .lift | .hold | .lower | .retract | .halted => s

/-- The start progress at a load sample (R46, R47, R99). -/
def loadRules (s : State) : State :=
  match s.phases.phase with
  | .init => exitInit false (s.setPhases { s.phases with loadSeen := true })
  | .unconfigured | .listen | .ready | .seek | .seated | .lift | .hold | .lower | .retract
  | .halted => s

/-! ### Position -/

/-- The word is dealt with (R95, R96, R103): a valid word gives a new height and clears the invalid
count, an invalid one leaves the height and raises the count. -/
def storePosition (word : BitVec 18) (s : State) : State :=
  if positionValid word then
    s.setSensors
      { s.sensors with
        invalidCount := 0
        height :=
          match s.store.active with
          | none => s.sensors.height
          | some c => some (scaleHeight c (positionCount word)) }
  else
    s.setSensors { s.sensors with invalidCount := min (s.sensors.invalidCount + 1) badSampleLimit }

/-- SENSOR_INVALID at an invalid word that finds or brings the count to 3 (R96). -/
def reportInvalid (valid : Bool) (s : State) : State :=
  if !valid && s.sensors.invalidCount == badSampleLimit then report .sensorInvalid s else s

/-- The takers of a position sample in the order given (R97). -/
def takersOf : TakerOrder → List SampleTaker
  | .followerChecksRules => [.follower, .motionChecks, .phaseRules]
  | .followerRulesChecks => [.follower, .phaseRules, .motionChecks]
  | .checksFollowerRules => [.motionChecks, .follower, .phaseRules]
  | .checksRulesFollower => [.motionChecks, .phaseRules, .follower]
  | .rulesFollowerChecks => [.phaseRules, .follower, .motionChecks]
  | .rulesChecksFollower => [.phaseRules, .motionChecks, .follower]

/-- One taker takes the sample, handed with the part in `start` (R97). -/
def takeSample (valid : Bool) (order : SampleOrder) (start s : State) (taker : SampleTaker) : State :=
  match taker with
  | .follower => followSample s
  | .motionChecks => checkMotion valid order start s
  | .phaseRules => positionRules valid s

/-- The sample is handed on, the SENSOR_INVALID report before, among or after its takers (R96, R97;
log 4, log 31). -/
def handSample (valid : Bool) (order : SampleOrder) (s : State) : State :=
  let take := takeSample valid order s
  let takers := takersOf order.takers
  (takers.drop order.takersBeforeReport).foldl take
    (reportInvalid valid ((takers.take order.takersBeforeReport).foldl take s))

/-- A position transfer completes (R93): IDLE, overrun count 0 (R90), the word stored or held, the
sample handed on, and the next transfer. -/
def completePosition (word : BitVec 18) (order : SampleOrder) (s : State) : State :=
  if s.sensors.port = .position then
    let s := s.setSensors { s.sensors with port := .idle, overrunCount := 0 }
    let s := storePosition word s
    let s := handSample (positionValid word) order s
    startTransfer s
  else s

/-- POSITION_COMPLETION (R94). -/
def execPositionCompletion (word : BitVec 18) (order : SampleOrder) (s : State) : Answer :=
  running s (completePosition word order)

/-! ### Load -/

/-- The contact set event acts by phase (R62). -/
def contactSet (s : State) : State :=
  match s.phases.phase with
  | .seek => enterSeated s
  | .init | .unconfigured | .listen | .ready | .seated | .lift | .hold | .lower | .retract
  | .halted => s

/-- The contact cleared event acts by phase (R60, R62). -/
def contactCleared (s : State) : State :=
  match s.phases.phase with
  | .seated | .lift | .hold => report .loadLost s
  | .lower => changePhase .retract s
  | .init | .unconfigured | .listen | .ready | .seek | .retract | .halted => s

/-- The contact qualifier takes a load sample (R100, R101); `first`: the first since reset. -/
def qualifyContact (c : ConfigValues) (first : Bool) (s : State) : State :=
  let w := s.sensors.load.getD 0
  let threshold := c.tol.wContact.toNat
  if first then s.setSensors { s.sensors with contact := threshold ≤ w }
  else if s.sensors.contact then
    if w < c.releaseThreshold then
      if contactSamples ≤ s.sensors.contactRun + 1 then
        contactCleared (s.setSensors { s.sensors with contact := false, contactRun := 0 })
      else s.setSensors { s.sensors with contactRun := s.sensors.contactRun + 1 }
    else s.setSensors { s.sensors with contactRun := 0 }
  else if threshold ≤ w then
    if contactSamples ≤ s.sensors.contactRun + 1 then
      contactSet (s.setSensors { s.sensors with contact := true, contactRun := 0 })
    else s.setSensors { s.sensors with contactRun := s.sensors.contactRun + 1 }
  else s.setSensors { s.sensors with contactRun := 0 }

/-- The overload qualifier takes a load sample (R102). -/
def qualifyOverload (c : ConfigValues) (s : State) : State :=
  if c.tol.wCapacity.toNat ≤ s.sensors.load.getD 0 then
    let n := min (s.sensors.overloadRun + 1) c.overloadQ
    let s := s.setSensors { s.sensors with overloadRun := n }
    if n = c.overloadQ then report .overload s else s
  else s.setSensors { s.sensors with overloadRun := 0 }

/-- The takers of a load sample in the order given (R99). -/
def takeLoad (c : ConfigValues) (first : Bool) (order : LoadOrder) (s : State) : State :=
  match order with
  | .contactOverloadStart => loadRules (qualifyOverload c (qualifyContact c first s))
  | .overloadContactStart => loadRules (qualifyContact c first (qualifyOverload c s))
  | .contactStartOverload => qualifyOverload c (loadRules (qualifyContact c first s))

/-- The load is stored (R98). -/
def storeLoad (c : ConfigValues) (word : BitVec 12) (s : State) : State :=
  s.setSensors
    { s.sensors with load := some (storedLoad c word), lastSaturated := loadSaturated word }

/-- A load transfer completes (R93, R98, R99). Without a valid configuration nothing is stored and the
qualifiers do not run (R103); last load saturated then stands as well, which is the model's choice
(log 27). -/
def completeLoad (word : BitVec 12) (order : LoadOrder) (s : State) : State :=
  if s.sensors.port = .load then
    let s := s.setSensors { s.sensors with port := .idle }
    let first := s.sensors.load.isNone
    let s :=
      match s.store.active with
      | none => loadRules s
      | some c => takeLoad c first order (storeLoad c word s)
    startTransfer s
  else s

/-- LOAD_COMPLETION (R98). -/
def execLoadCompletion (word : BitVec 12) (order : LoadOrder) (s : State) : Answer :=
  running s (completeLoad word order)

end Sys2Proof.Machine
end

