-- ==== Sys2Proof/Machine/Service.lean ====
section
/-!
DEFINITION. The meanings of the service frames handed from the receive queue to the Configuration
Store: CONFIG_WRITE, TOL_REWIND (R175), TOL_WRITE (R176), COMMIT (R179), RESTART (R181) and
CLOSE_SETUP (R182), with the tests of R174.
-/

namespace Sys2Proof.Machine

/-- The first three tests of R174 (window, protection as R178 gives it, commit state): the result
that refuses the frame, or none when all pass. -/
def serviceRefusal (s : State) : Option ConfigResult :=
  if !s.store.windowOpen then some .refusedClosed
  else if !s.store.setupStrap &&
      (s.store.active.map (fun c => c.fields.protect != 0#16)).getD false then
    some .refusedProtected
  else
    match s.store.commit with
    | .inFlight _ => some .busy
    | .idle => none

/-- The last config result takes a code (R174). -/
def setResult (result : ConfigResult) (s : State) : State :=
  s.setStore { s.store with result := result }

/-- A service frame is taken (R174): refused with the code of the first failing test, or dealt with. -/
def takeService (accept : State → State) (s : State) : State :=
  match serviceRefusal s with
  | some result => setResult result s
  | none => accept s

/-- The value a CONFIG_WRITE stores: for GUARD_ENABLE the bits for G0 and G1 are set (R175). -/
def stagedValue (id : Nat) (value : Word) : Word :=
  if id = 16 then forceGuardEnable value else value

/-- A CONFIG_WRITE past the first three tests, for any id but 21 (R175). -/
def writeField (id : Nat) (value : Word) (s : State) : State :=
  match fieldRange id with
  | none => setResult .refusedRange s
  | some range =>
    if inRange value range then
      s.setStore
        { s.store with
          staging :=
            { s.store.staging with
              fields := s.store.staging.fields.setId id (some (stagedValue id value)) }
          result := .accepted }
    else setResult .refusedRange s

/-- The oldest frame of the receive queue, a CONFIG_WRITE of another id than 21, is handed to the
Store (R166); otherwise this is no event (log 2, log 6). -/
def handConfigWrite (s : State) : State :=
  match s.line.rxQueue with
  | .configWrite id value :: rest =>
    if id = 21#8 then s
    else takeService (writeField id.toNat value) (s.setLine { s.line with rxQueue := rest })
  | _ => s

/-- CONFIG_WRITE (R175). -/
def execConfigWrite (s : State) : Answer := running s handConfigWrite

/-- TOL_REWIND past the first three tests (R175): the pointer is set to 0, whatever the value. -/
def rewind (s : State) : State :=
  s.setStore { s.store with tolPointer := 0, result := .accepted }

/-- The oldest frame, a CONFIG_WRITE of id 21, is handed to the Store (R166, R175). -/
def handTolRewind (s : State) : State :=
  match s.line.rxQueue with
  | .configWrite id _ :: rest =>
    if id = 21#8 then takeService rewind (s.setLine { s.line with rxQueue := rest }) else s
  | _ => s

/-- TOL_REWIND (R175). -/
def execTolRewind (s : State) : Answer := running s handTolRewind

/-- A TOL_WRITE past the first three tests (R176): a write at pointer 0 opens the pass, the write of
slot 5 completes it. -/
def writeTolerance (value : Word) (s : State) : State :=
  match toleranceRange s.store.tolPointer with
  | none => setResult .refusedRange s
  | some range =>
    if inRange value range then
      let p := s.store.tolPointer
      s.setStore
        { s.store with
          staging :=
            { s.store.staging with tol := s.store.staging.tol.setSlot p (some value) }
          passComplete := if p = 5 then true else if p = 0 then false else s.store.passComplete
          tolPointer := if p = 5 then 0 else p + 1
          result := .accepted }
    else setResult .refusedRange s

/-- The oldest frame, a TOL_WRITE, is handed to the Store (R166, R176). -/
def handTolWrite (s : State) : State :=
  match s.line.rxQueue with
  | .tolWrite value :: rest =>
    takeService (writeTolerance value) (s.setLine { s.line with rxQueue := rest })
  | _ => s

/-- TOL_WRITE (R176). -/
def execTolWrite (s : State) : Answer := running s handTolWrite

/-- The values a COMMIT accepts (R179): every field and slot holds a value, the pass is COMPLETE, the
relations hold and the mask is not empty. -/
def committable (s : State) : Option ConfigValues :=
  match s.store.staging.values with
  | none => none
  | some c =>
    if s.store.passComplete && c.related && c.mask != 0#24 then some c else none

/-- A COMMIT past the first three tests (R179). -/
def startCommit (s : State) : State :=
  match committable s with
  | none => setResult .refusedInconsistent s
  | some values =>
    s.setStore
      { s.store with
        commit := .inFlight values
        writeTimer := some writeMs
        tolPointer := 0
        result := .accepted }

/-- The oldest frame, a COMMIT, is handed to the Store (R166, R179). -/
def handCommit (s : State) : State :=
  match s.line.rxQueue with
  | .commit :: rest => takeService startCommit (s.setLine { s.line with rxQueue := rest })
  | _ => s

/-- COMMIT (R179). -/
def execCommit (s : State) : Answer := running s handCommit

/-- The oldest frame, a RESTART, is handed to the Store (R166, R181): past its tests it resets the
column with kind SERVICE. -/
def handRestart (inputs : SampledInputs) (s : State) : State :=
  match s.line.rxQueue with
  | .restart :: rest =>
    takeService (resetPart .service inputs) (s.setLine { s.line with rxQueue := rest })
  | _ => s

/-- RESTART (R181). -/
def execRestart (inputs : SampledInputs) (s : State) : Answer := running s (handRestart inputs)

/-- The oldest frame, a CLOSE_SETUP, is handed to the Store (R166, R182): the window closes if it is
open, and the result is unchanged. -/
def handCloseSetup (s : State) : State :=
  match s.line.rxQueue with
  | .closeSetup :: rest => closeWindow (s.setLine { s.line with rxQueue := rest })
  | _ => s

/-- CLOSE_SETUP (R182). -/
def execCloseSetup (s : State) : Answer := running s handCloseSetup

end Sys2Proof.Machine
end

