-- ==== Sys2Proof/Machine/Dispatch.lean ====
section
/-!
DEFINITION. One arm per command of the opcode table, each a direct call of the command's meaning.
-/

namespace Sys2Proof.Machine

def exec (i : Instr) (s : State) : Host.Outcome State Fault Refusal :=
  match i with
  | .reset kind inputs => Sys2Proof.Machine.execReset kind inputs s
  | .silenceScanExpiry => Sys2Proof.Machine.execSilenceScanExpiry s
  | .controlPeriodExpiry => Sys2Proof.Machine.execControlPeriodExpiry s
  | .positionCompletion word order => Sys2Proof.Machine.execPositionCompletion word order s
  | .loadCompletion word order => Sys2Proof.Machine.execLoadCompletion word order s
  | .statusTimerExpiry => Sys2Proof.Machine.execStatusTimerExpiry s
  | .dwellExpiry => Sys2Proof.Machine.execDwellExpiry s
  | .settleExpiry => Sys2Proof.Machine.execSettleExpiry s
  | .demandTimerExpiry => Sys2Proof.Machine.execDemandTimerExpiry s
  | .blinkTimerExpiry => Sys2Proof.Machine.execBlinkTimerExpiry s
  | .windowTimerExpiry => Sys2Proof.Machine.execWindowTimerExpiry s
  | .commitCompletion => Sys2Proof.Machine.execCommitCompletion s
  | .guardActiveEdge line => Sys2Proof.Machine.execGuardActiveEdge line s
  | .guardInactiveEdge line => Sys2Proof.Machine.execGuardInactiveEdge line s
  | .motionButtonPress button => Sys2Proof.Machine.execMotionButtonPress button s
  | .deadManRelease button => Sys2Proof.Machine.execDeadManRelease button s
  | .ackButtonPress => Sys2Proof.Machine.execAckButtonPress s
  | .markButtonPress => Sys2Proof.Machine.execMarkButtonPress s
  | .ackOrMarkRelease button => Sys2Proof.Machine.execAckOrMarkRelease button s
  | .pendantRemoved => Sys2Proof.Machine.execPendantRemoved s
  | .pendantPlugged => Sys2Proof.Machine.execPendantPlugged s
  | .frameReceived bytes framingError startedAtIdle => Sys2Proof.Machine.execFrameReceived bytes framingError startedAtIdle s
  | .status => Sys2Proof.Machine.execStatus s
  | .raise => Sys2Proof.Machine.execRaise s
  | .lower => Sys2Proof.Machine.execLower s
  | .hold => Sys2Proof.Machine.execHold s
  | .estop => Sys2Proof.Machine.execEstop s
  | .ack => Sys2Proof.Machine.execAck s
  | .setMark => Sys2Proof.Machine.execSetMark s
  | .clearMark => Sys2Proof.Machine.execClearMark s
  | .configWrite => Sys2Proof.Machine.execConfigWrite s
  | .tolRewind => Sys2Proof.Machine.execTolRewind s
  | .tolWrite => Sys2Proof.Machine.execTolWrite s
  | .commit => Sys2Proof.Machine.execCommit s
  | .restart inputs => Sys2Proof.Machine.execRestart inputs s
  | .closeSetup => Sys2Proof.Machine.execCloseSetup s
  | .attempt => Sys2Proof.Machine.execAttempt s
  | .attemptSucceeds => Sys2Proof.Machine.execAttemptSucceeds s
  | .transmitError => Sys2Proof.Machine.execTransmitError s
  | .lostArbitration => Sys2Proof.Machine.execLostArbitration s
  | .resetApplied => Sys2Proof.Machine.execResetApplied s
  | .commandKindUndefined => Sys2Proof.Machine.execCommandKindUndefined s

end Sys2Proof.Machine
end

