-- ==== Sys2Proof/Safety.lean ====
section
/-!
DEFINITION. What the manual promises of the part whatever events reach it, as conditions on one state.
The statements say that State.reset meets each and that every step keeps it.
-/

namespace Sys2Proof.Machine

/-- The drive is safe (R107, R110): run enable is asserted and the brake released exactly outside
STOPPED, STOPPED is left only in a motion phase, duty is above 0 only in RUNNING and never above
1 000, the dwell timer runs exactly in DWELL and the settle timer only in STOPPED. -/
abbrev State.driveSafe (s : State) : Prop :=
  (s.drive.runEnable = true ↔ s.drive.state ≠ .stopped) ∧
  (s.drive.brakeReleased = true ↔ s.drive.state ≠ .stopped) ∧
  (s.drive.state ≠ .stopped → s.phases.phase.isMotion = true) ∧
  (s.drive.state ≠ .running → s.drive.duty = 0) ∧
  s.drive.duty ≤ maxDuty ∧
  (s.drive.dwellTimer.isSome = true ↔ s.drive.state = .dwell) ∧
  (s.drive.settleTimer.isSome = true → s.drive.state = .stopped)

/-- The phase is HALTED exactly when the latched cause set is not empty (R64), and no cause is held
twice (R119). -/
abbrev State.haltExact (s : State) : Prop :=
  (s.phases.phase = .halted ↔ (s.phases.causes ≠ [] ∨ s.phases.origin.isSome = true)) ∧
  s.phases.causes.Nodup

/-- The active configuration, when there is one, lies in range and meets the relations (R171), and
the enables of G0 and G1 are forced on (R139). -/
abbrev State.configSound (s : State) : Prop :=
  match s.store.active with
  | none => True
  | some c => c.inRanges = true ∧ c.related = true ∧ c.guardEnabled 0 = true ∧
      c.guardEnabled 1 = true

/-- Two entries stand at one position. -/
def samePosition (a b : PeerEntry) : Bool := a.line == b.line && a.side == b.side

/-- The Peer Table is sound (R1, R5, R13): without a valid configuration it is empty (R21); with one
its entries ascend strictly by station, name columns other than this one, stand at distinct positions
other than this column's, and are LOST exactly at a silence count of 0, which never exceeds
SILENCE_LIMIT. -/
abbrev State.tableSound (s : State) : Prop :=
  match s.store.active with
  | none => s.peers = []
  | some c =>
    s.peers.Pairwise (fun a b => a.station < b.station ∧ samePosition a b = false) ∧
    ∀ e ∈ s.peers,
      1 ≤ e.station ∧ e.station ≤ 48 ∧ e.station ≠ s.store.station.toNat ∧
      (e.line = c.lineNo → e.side ≠ c.ownSide) ∧
      e.line ≤ 23 ∧ e.height ≤ maxHeight ∧
      (e.presence = .lost ↔ e.silence = 0) ∧ e.silence ≤ c.fields.silenceLimit.toNat

/-- Every counter, queue and height stays within the bounds the manual gives it (R42, R90, R95, R96,
R98, R101, R102, R132, R160, R162, R166, R176); of resets at most two are applied at once (R183). -/
abbrev State.bounded (s : State) : Prop :=
  s.line.queue.length ≤ txQueueSize ∧ s.line.rxQueue.length ≤ rxQueueSize ∧
  s.line.errors ≤ maxTransmitErrors ∧
  s.sensors.overrunCount ≤ badSampleLimit ∧ s.sensors.invalidCount ≤ badSampleLimit ∧
  s.sensors.contactRun < contactSamples ∧ s.sensors.overloadRun ≤ 24 ∧
  s.follower.stallCounter < stallSamples ∧ s.store.tolPointer ≤ 5 ∧
  s.sensors.height.getD 0 ≤ maxHeight ∧ s.sensors.load.getD 0 ≤ maxLoad ∧
  s.phases.target.getD 0 ≤ maxHeight ∧ s.phases.mark.getD 0 ≤ maxHeight ∧
  s.phases.seatedCount ≤ 47 ∧ s.resetsApplied ≤ resetSources

/-- Pending latches and causes agree (R141, R142): outside INIT and UNCONFIGURED a line's latch is set
exactly while its cause is in the list; in INIT a latch is set only for an enabled line other than
G2. -/
abbrev State.latchesAgree (s : State) : Prop :=
  ∀ i : Fin 8,
    (s.phases.phase ≠ .init → s.phases.phase ≠ .unconfigured →
      (s.guards.pending.getLsbD i.val = true ↔ guardCause i ∈ s.phases.causes)) ∧
    (s.phases.phase = .init → s.guards.pending.getLsbD i.val = true →
      i ≠ 2 ∧ (s.store.active.map (fun c => c.guardEnabled i)).getD false = true)

/-- The lamps show the phase (R86), and the MOVING lamp blinks exactly while the set-at-target
condition holds (R87). -/
abbrev State.lampsSound (s : State) : Prop :=
  s.pendant.lampReady = (lampsOf s.phases.phase).1 ∧
  s.pendant.lampFault = (lampsOf s.phases.phase).2.2 ∧
  s.pendant.blinkTimer.isSome = setAtTarget s ∧
  (s.pendant.blinkTimer.isSome = false → s.pendant.lampMoving = (lampsOf s.phases.phase).2.1)

/-- The flags of arrival are set in HOLD alone (R43, R58, R87). -/
abbrev State.arrivalFlagsSound (s : State) : Prop :=
  (s.phases.atTarget = true → s.phases.phase = .hold) ∧
  (s.phases.atMark = true → s.phases.phase = .hold)

/-- The commit state and its write timer go together, as do the open window and a service write: the
write timer runs exactly while a commit is in flight (R179, R180), and the window timer only while
the window is open (R177). -/
abbrev State.storeTimersSound (s : State) : Prop :=
  (s.store.commit = .idle ↔ s.store.writeTimer = none) ∧
  (s.store.windowOpen = false → s.store.windowTimer = none)

/-- The transmitter and its queue agree (R156, R157, R159): a command is marked as being sent exactly
in an attempt that sends one, and then only one is. -/
abbrev State.txSound (s : State) : Prop :=
  s.line.queue.countP (fun q => q.sending) =
    (match s.line.tx with
      | .sendingCommand _ => 1
      | .idle | .waiting | .sendingStatus _ _ | .disabled => 0) ∧
  (s.line.tx = .idle → s.line.queue = [] ∧ s.line.slot = false) ∧
  (s.line.tx = .disabled → s.line.queue = [])

/-! ### Words the statements use -/

/-- The cause list after `cause` is reported (R120): dropped in INIT and UNCONFIGURED, unchanged when
it is already in, joined at the end otherwise. -/
def State.causesWith (s : State) (cause : Cause) : List Cause :=
  if s.phases.phase = .init ∨ s.phases.phase = .unconfigured ∨ cause ∈ s.phases.causes then
    s.phases.causes
  else s.phases.causes ++ [cause]

/-- The phase after `cause` is reported (R120): HALTED wherever the report is not dropped. -/
def State.phaseWithCause (s : State) : Phase :=
  if s.phases.phase = .init ∨ s.phases.phase = .unconfigured then s.phases.phase else .halted

/-- The drive after a change of phase (R108, R111, R112, R114). -/
def driveAfter (old new : Phase) (d : DriveBlock) : DriveBlock :=
  if old.isMotion = false ∧ new.isMotion = true then
    { d with
      direction := if new = .seek ∨ new = .lift then .up else .down
      duty := 0, runEnable := true, brakeReleased := true, state := .dwell
      dwellTimer := some 150, settleTimer := none }
  else if old.isMotion = true ∧ new.isMotion = false ∧ d.state ≠ .stopped then
    { d with
      duty := 0, runEnable := false, brakeReleased := false, state := .stopped
      dwellTimer := none, settleTimer := some 100 }
  else if old = .init ∧ new = .listen then { d with settleTimer := some 100 }
  else d

/-- From `s` to `t` nothing is touched that no change of phase touches (R43): the Peer Table, the
sensors, the guard lines, the configuration, the pendant's inputs, and of the Line Interface the error
count, the command queue and the receive queue. -/
def State.onlyPhaseMoved (s t : State) : Prop :=
  t.peers = s.peers ∧ t.scanTimer = s.scanTimer ∧ t.sensors = s.sensors ∧ t.guards = s.guards ∧
  t.store = s.store ∧ t.resetsApplied = s.resetsApplied ∧ t.freeCount = s.freeCount ∧
  t.pending = s.pending ∧
  t.pendant.raise = s.pendant.raise ∧ t.pendant.lower = s.pendant.lower ∧
  t.pendant.ack = s.pendant.ack ∧ t.pendant.mark = s.pendant.mark ∧
  t.pendant.present = s.pendant.present ∧ t.pendant.held = s.pendant.held ∧
  t.pendant.lockout = s.pendant.lockout ∧
  t.line.errors = s.line.errors ∧ t.line.queue = s.line.queue ∧ t.line.rxQueue = s.line.rxQueue ∧
  t.line.rxWaitsIdle = s.line.rxWaitsIdle

/-- The target, mark, seek start, seated count, start progress and epoch stand (R44, R45). -/
def State.kept (s t : State) : Prop :=
  t.phases.target = s.phases.target ∧ t.phases.mark = s.phases.mark ∧
  t.phases.seekStart = s.phases.seekStart ∧ t.phases.seatedCount = s.phases.seatedCount ∧
  t.phases.positionSeen = s.phases.positionSeen ∧ t.phases.loadSeen = s.phases.loadSeen ∧
  t.phases.epoch = s.phases.epoch

/-- The phases by code, 0 to 10 (00_scope.md section 3). -/
def phasesByCode : List Phase :=
  [.init, .unconfigured, .listen, .ready, .seek, .seated, .lift, .hold, .lower, .retract, .halted]

/-- The causes by code, the first having code 1 (00_scope.md section 3). -/
def causesByCode : List Cause :=
  [.estopInput, .estopCommand, .overtravel, .bottomLoaded, .nutWear, .area, .driveFault, .auxA, .auxB,
    .overload, .noContact, .loadLost, .stall, .wrongDirection, .drift, .spread, .sensorStale,
    .sensorInvalid, .driveStarved, .peerSilent, .peerRestarted, .duplicateStation, .positionClash,
    .configMismatch, .lineFault, .receiveOverrun]

/-- The config results by code, 0 to 7 (R153). -/
def resultsByCode : List ConfigResult :=
  [.none, .accepted, .refusedClosed, .refusedProtected, .refusedRange, .busy, .committed,
    .refusedInconsistent]

/-- The kinds of reset by code, 0 to 3 (R153). -/
def resetKindsByCode : List ResetKind := [.power, .supply, .pin, .service]

/-- A line is enabled in the mask: LINES_LO holds lines 0 to 15, LINES_HI lines 16 to 23 (R15). -/
def ConfigValues.lineEnabled (c : ConfigValues) (k : Nat) : Bool :=
  if k < 16 then c.fields.linesLo.getLsbD k else decide (k < 24) && c.fields.linesHi.getLsbD (k - 16)

/-- The expected group size E, twice the number of enabled lines (R18). -/
def ConfigValues.expectedSize (c : ConfigValues) : Nat :=
  2 * ((List.range 24).filter c.lineEnabled).length

/-- `e` is the entry a STATUS frame of `station` gives, its values in range (R2, R4, R6, R7). -/
def PeerEntry.givenBy (e : PeerEntry) (station : BitVec 6) (f : StatusFields) (c : ConfigValues)
    (digest : Option Word) : Prop :=
  e.station = station.toNat ∧ e.line = f.line.toNat ∧ e.line ≤ 23 ∧
  e.side = (if f.side then .right else .left) ∧
  e.presence = .present ∧ e.silence = c.fields.silenceLimit.toNat ∧
  phasesByCode[f.phase.toNat]? = some e.phase ∧
  e.height = f.height.toNat ∧ e.height ≤ 24000 ∧ f.load.toNat ≤ 4000 ∧
  e.contact = f.contact ∧ e.atTarget = f.atTarget ∧
  ((f.haltKind = 0#2 ∧ e.halt = .none) ∨
    (f.haltKind = 1#2 ∧ f.causeOrOrigin ≠ 0#6 ∧
      ∃ cause, causesByCode[f.causeOrOrigin.toNat - 1]? = some cause ∧ e.halt = .localCause cause) ∨
    (f.haltKind = 2#2 ∧ f.causeOrOrigin ≠ 0#6 ∧ f.causeOrOrigin.toNat ≤ 48 ∧
      e.halt = .peerOrigin f.causeOrOrigin.toNat)) ∧
  e.epoch = f.epoch ∧ (e.digestMatch = true ↔ digest = some f.digest)

/-- The phases INIT, LISTEN and UNCONFIGURED, which a restarted column reports (R10). -/
def Phase.afterRestart (p : Phase) : Prop := p = .init ∨ p = .listen ∨ p = .unconfigured

/-- The stored frame gives a restarted notice (R10): it reports a starting phase and creates its entry,
or finds it LOST or in another phase; or it moves the entry's claim. -/
def State.seesRestart (s : State) (e : PeerEntry) : Prop :=
  (findPeer s.peers e.station = none ∧ e.phase.afterRestart) ∨
    ∃ old, findPeer s.peers e.station = some old ∧
      ((e.phase.afterRestart ∧ (¬old.phase.afterRestart ∨ old.presence = .lost)) ∨
        old.line ≠ e.line ∨ old.side ≠ e.side)

/-- One guard line at the entry into LISTEN from INIT (R144): an enabled line whose latch is set, or
that is active and not G2, reports its cause, G0 with its ESTOP request first (R146). -/
def State.lineTaken (c : ConfigValues) (s : State) (i : Fin 8) : State :=
  if c.fields.guardEnable.getLsbD i.val = true ∧
      (s.guards.pending.getLsbD i.val = true ∨
        (i ≠ 2 ∧ s.guards.levels.getLsbD i.val = c.fields.guardPolarity.getLsbD i.val)) then
    let u := { s with guards := { s.guards with pending := setBit8 s.guards.pending i true } }
    report (guardCause i) (if i = 0 then requestCommand .estop 0#16 u else u)
  else s

/-- The Sensor Port after the arbiter of R92 served an idle port. -/
def SensorBlock.served (p : SensorBlock) : SensorBlock :=
  { p with
    port := if p.positionRequest then .position else if p.loadRequest then .load else .idle
    positionRequest := false
    loadRequest := p.loadRequest && p.positionRequest }

/-- The eighty bits of a STATUS payload with its five unused bits (R153). -/
def StatusFields.onLine (f : StatusFields) (unused : BitVec 5) : BitVec 80 :=
  f.line ++ BitVec.ofBool f.side ++ f.phase ++ BitVec.ofBool f.contact ++
    BitVec.ofBool f.atTarget ++ BitVec.ofBool f.markSet ++ BitVec.ofBool f.atMark ++
    BitVec.ofBool f.setupOpen ++ f.height ++ f.load ++ f.haltKind ++ f.causeOrOrigin ++
    f.epoch ++ f.digest ++ f.resetCause ++ f.configResult ++ unused

/-- A payload lays out the body as its kind does, spare bits whatever they are (R153, R154). -/
def FrameBody.laidOut (payload : List Byte) : FrameBody → Prop
  | .status f => ∃ unused : BitVec 5, payload = bytes80 (f.onLine unused)
  | .command kind arg => ∃ spare : BitVec 12, payload = bytes32 (kind ++ arg ++ spare)
  | .configWrite target id value =>
    ∃ spare : BitVec 2, payload = bytes32 (target ++ id ++ value ++ spare)
  | .tolWrite target value =>
    ∃ (spare : BitVec 2) (last : Byte),
      bytes32 (target ++ value ++ spare ++ last) = payload ++ [last]
  | .commit target => ∃ spare : BitVec 2, payload = [target ++ spare]
  | .restart target => ∃ spare : BitVec 2, payload = [target ++ spare]
  | .closeSetup target => ∃ spare : BitVec 2, payload = [target ++ spare]

/-- The kind code, the payload bytes and the priorities of each body (R151, R152). -/
def FrameBody.row : FrameBody → BitVec 4 × Nat × List (BitVec 2)
  | .status _ => (1#4, 10, [2#2])
  | .command _ _ => (2#4, 4, [0#2, 1#2])
  | .configWrite _ _ _ => (8#4, 4, [3#2])
  | .tolWrite _ _ => (9#4, 3, [3#2])
  | .commit _ => (10#4, 1, [3#2])
  | .restart _ => (11#4, 1, [3#2])
  | .closeSetup _ => (12#4, 1, [3#2])

/-- The part with the oldest frame of the receive queue taken away (R166). -/
def State.afterHanding (s : State) (rest : List RxFrame) : State :=
  { s with line := { s.line with rxQueue := rest } }

/-- The first three tests of R174 pass: the window is OPEN, PROTECT is 0 or overridden (R178), and no
commit is in flight. -/
def State.serviceOpen (s : State) : Prop :=
  s.store.windowOpen = true ∧
  (s.store.setupStrap = true ∨ ∀ c, s.store.active = some c → c.fields.protect = 0#16) ∧
  s.store.commit = .idle

/-- The position is own position, or claimed by an entry of another station (R5). -/
def State.positionTaken (s : State) (c : ConfigValues) (station line : Nat) (side : Side) : Prop :=
  (c.fields.line.toNat = line ∧ c.ownSide = side) ∨
    ∃ e ∈ s.peers, e.station ≠ station ∧ e.line = line ∧ e.side = side

/-- A queued command may be displaced: RAISE, LOWER, SET_MARK or CLEAR_MARK, and not the one being
sent. -/
def TxCommand.givesWay (q : TxCommand) : Prop :=
  q.sending = false ∧
    (q.kind = .raise ∨ q.kind = .lower ∨ q.kind = .setMark ∨ q.kind = .clearMark)

/-- The removal conditions of R126 that are not "always". -/
def State.causePersists (s : State) (cause : Cause) : Prop :=
  match cause with
  | .estopInput => lineActive s 0 = true
  | .overtravel => lineActive s 1 = true
  | .nutWear => lineActive s 3 = true
  | .area => lineActive s 4 = true
  | .driveFault => lineActive s 5 = true
  | .auxA => lineActive s 6 = true
  | .auxB => lineActive s 7 = true
  | .overload =>
    s.sensors.lastSaturated = true ∨
      ∃ c, s.store.active = some c ∧ c.tol.wCapacity.toNat ≤ s.sensors.load.getD 0
  | .sensorInvalid => s.sensors.invalidCount ≠ 0
  | .peerSilent => groupComplete s = false
  | .configMismatch => ∃ e ∈ s.peers, e.presence = .present ∧ e.digestMatch = false
  | .estopCommand | .bottomLoaded | .noContact | .loadLost | .stall | .wrongDirection | .drift
  | .spread | .sensorStale | .driveStarved | .peerRestarted | .duplicateStation | .positionClash
  | .lineFault | .receiveOverrun => False

/-- The command that hands a service frame to the Configuration Store, CLOSE_SETUP apart. -/
def serviceCommand (inputs : SampledInputs) : RxFrame → Option Instr
  | .configWrite id _ => some (if id = 21#8 then .tolRewind else .configWrite)
  | .tolWrite _ => some .tolWrite
  | .commit => some .commit
  | .restart => some (.restart inputs)
  | .status _ _ | .command _ _ _ | .closeSetup => none

/-- The pendant's button changes are acted on (R80). -/
def State.pendantHeard (s : State) : Prop :=
  s.pendant.present = true ∧ s.phases.phase ≠ .init ∧ s.phases.phase ≠ .unconfigured

/-- The reported heights of the PRESENT entries with CONTACT, own height at their head (R40). -/
def State.loadedHeights (s : State) : List Nat :=
  s.sensors.height.getD 0 ::
    (s.peers.filter (fun e => e.presence == .present && e.contact)).map (fun e => e.height)

/-- The spread of the loaded heights does not exceed twice A_GROUP (R40). -/
def State.spreadWithin (s : State) (c : ConfigValues) : Prop :=
  ∀ a ∈ s.loadedHeights, ∀ b ∈ s.loadedHeights, a ≤ b + 2 * c.tol.aGroup.toNat

end Sys2Proof.Machine
end

