-- ==== Sys2Proof/Certificates/Slice0/Obligations.lean ====
section
/-!
DEFINITION. The statements for the provers. `s` is any state unless an invariant of Safety.lean is a
premise; `t` is the next state a command answers.
-/

open Sys2Proof Sys2Proof.Machine

/-! ### Stepping -/

/-- The block takes the command at the front of its queue and executes it on the queue's rest. -/
def Obligations.StepRunsFrontCommand : Prop :=
  ∀ (s : State) (c : Instr) (rest : List Instr),
    s.pending = c :: rest → step s = exec c { s with pending := rest }

/-- With no command waiting (the model's choice, log 5): nothing while a reset is applied (log 8); with
no timer at 0 every running timer has a millisecond less and nothing else changes; with timers at 0 the
expiry of one of them is queued, and nothing but the model's own counter of free choices changes
besides. -/
def Obligations.IdleStepLetsTimePass : Prop :=
  ∀ s : State, s.pending = [] →
    (s.held = true → step s = .next s) ∧
    (s.held = false →
      (s.scanTimer ≠ 0 → s.sensors.controlTimer ≠ 0 → s.line.statusTimer ≠ 0 →
        s.drive.dwellTimer ≠ some 0 → s.drive.settleTimer ≠ some 0 →
        s.drive.demandTimer ≠ some 0 → s.pendant.blinkTimer ≠ some 0 →
        s.store.windowTimer ≠ some 0 → s.store.writeTimer ≠ some 0 →
        step s =
          .next
            { s with
              scanTimer := s.scanTimer - 1
              sensors := { s.sensors with controlTimer := s.sensors.controlTimer - 1 }
              line := { s.line with statusTimer := s.line.statusTimer - 1 }
              drive :=
                { s.drive with
                  dwellTimer := s.drive.dwellTimer.map (fun n => n - 1)
                  settleTimer := s.drive.settleTimer.map (fun n => n - 1)
                  demandTimer := s.drive.demandTimer.map (fun n => n - 1) }
              pendant :=
                { s.pendant with blinkTimer := s.pendant.blinkTimer.map (fun n => n - 1) }
              store :=
                { s.store with
                  windowTimer := s.store.windowTimer.map (fun n => n - 1)
                  writeTimer := s.store.writeTimer.map (fun n => n - 1) } }) ∧
      (s.scanTimer = 0 ∨ s.sensors.controlTimer = 0 ∨ s.line.statusTimer = 0 ∨
          s.drive.dwellTimer = some 0 ∨ s.drive.settleTimer = some 0 ∨
          s.drive.demandTimer = some 0 ∨ s.pendant.blinkTimer = some 0 ∨
          s.store.windowTimer = some 0 ∨ s.store.writeTimer = some 0 →
        ∃ c n, step s = .next { s with pending := [c], freeCount := n } ∧
          ((c = .silenceScanExpiry ∧ s.scanTimer = 0) ∨
            (c = .controlPeriodExpiry ∧ s.sensors.controlTimer = 0) ∨
            (c = .statusTimerExpiry ∧ s.line.statusTimer = 0) ∨
            (c = .dwellExpiry ∧ s.drive.dwellTimer = some 0) ∨
            (c = .settleExpiry ∧ s.drive.settleTimer = some 0) ∨
            (c = .demandTimerExpiry ∧ s.drive.demandTimer = some 0) ∨
            (c = .blinkTimerExpiry ∧ s.pendant.blinkTimer = some 0) ∨
            (c = .windowTimerExpiry ∧ s.store.windowTimer = some 0) ∨
            (c = .commitCompletion ∧ s.store.writeTimer = some 0))))

/-- Every command answers a next state (the model's reading of the manual as a whole, log 22), and while
a reset is applied only the reset commands change anything (the model's choice, log 8). -/
def Obligations.EveryCommandAnswersNext : Prop :=
  ∀ (c : Instr) (s : State),
    (∃ t, exec c s = .next t) ∧
    (s.held = true → (∀ kind inputs, c ≠ .reset kind inputs) → c ≠ .resetApplied →
      exec c s = .next s)

/-! ### Resets -/

/-- R67 and R105: the phase state and the Sensor Port after a reset of any kind, at the release from
which the column starts: that of the last reset applied (R183). -/
def Obligations.ResetSetsPhasesAndSensors : Prop :=
  ∀ (kind : ResetKind) (inputs : SampledInputs) (s : State),
    s.resetsApplied ≤ 1 →
    ∃ t, exec (.reset kind inputs) s = .next t ∧
      t.phases =
        { phase := .init, target := none, mark := none, atTarget := false, atMark := false,
          seekStart := none, seatedCount := 0, positionSeen := false, loadSeen := false,
          epoch := 0#4, causes := [], origin := none } ∧
      t.sensors =
        { controlTimer := 10, positionRequest := false, loadRequest := false, port := .idle,
          overrunCount := 0, invalidCount := 0, height := none, load := none,
          lastSaturated := false, contact := false, contactRun := 0, overloadRun := 0 }

/-- R185 with R171 to R173: the Configuration Store after a reset of any kind. -/
def Obligations.ResetLatchesConfiguration : Prop :=
  ∀ (kind : ResetKind) (inputs : SampledInputs) (s : State),
    s.resetsApplied ≤ 1 →
    ∃ t, exec (.reset kind inputs) s = .next t ∧
      t.store.station = inputs.station ∧ t.store.setupStrap = inputs.setupStrap ∧
      t.store.resetCause = kind ∧
      (s.store.commit = .idle → t.store.record = s.store.record) ∧
      (s.store.commit ≠ .idle → t.store.record = .broken) ∧
      (∀ c d, t.store.record = .written c d →
        d = recordDigest c → c.inRanges = true → c.related = true →
        t.store.active =
          some { c with fields := { c.fields with guardEnable := c.fields.guardEnable ||| 3#16 } }) ∧
      (∀ c, t.store.active = some c →
        ∃ v, t.store.record = .written v (recordDigest v) ∧ v.inRanges = true ∧
          v.related = true) ∧
      t.store.ownDigest = t.store.active.map groupDigest ∧
      (∀ c, t.store.active = some c →
        t.store.staging = { fields := c.fields.map some, tol := c.tol.map some } ∧
        t.store.passComplete = true) ∧
      (t.store.active = none →
        (∀ v ∈ t.store.staging.fields.toList, v = none) ∧
        (∀ v ∈ t.store.staging.tol.toList, v = none) ∧ t.store.passComplete = false) ∧
      t.store.tolPointer = 0 ∧ t.store.windowOpen = true ∧
      t.store.windowTimer = some 120000 ∧ t.store.commit = .idle ∧ t.store.writeTimer = none ∧
      t.store.result = .none

/-- R21, R41, R88, R118, R138, R149, R168: the other blocks after a reset of any kind. The waiting
commands, the model's own, stay. -/
def Obligations.ResetSetsOtherBlocks : Prop :=
  ∀ (kind : ResetKind) (inputs : SampledInputs) (s : State),
    s.resetsApplied ≤ 1 →
    ∃ t, exec (.reset kind inputs) s = .next t ∧
      t.peers = [] ∧ t.scanTimer = 20 ∧
      t.follower =
        { prevDemand := 0, lastDemand := { speed := 0, direction := none, duty := 0 },
          stallRef := none, stallCounter := 0 } ∧
      t.checks = { stallArmed := false, watched := none, extreme := none, driftRef := none } ∧
      t.drive =
        { state := .stopped, duty := 0, direction := .up, runEnable := false,
          brakeReleased := false, dwellTimer := none, settleTimer := none, demandTimer := none } ∧
      t.guards = { levels := inputs.guards, pending := 0#8 } ∧
      t.pendant =
        { raise := inputs.raise, lower := inputs.lower, ack := inputs.ack, mark := inputs.mark,
          present := inputs.present, held := none, lockout := false, lampReady := false,
          lampMoving := false, lampFault := false, blinkTimer := none } ∧
      t.line.tx =
        (if 1 ≤ inputs.station.toNat ∧ inputs.station.toNat ≤ 48 then .idle else .disabled) ∧
      t.line.errors = 0 ∧ t.line.queue = [] ∧ t.line.slot = false ∧ t.line.statusTimer = 20 ∧
      t.line.rxQueue = [] ∧ t.line.rxWaitsIdle = true ∧
      t.resetsApplied = 0 ∧ t.pending = s.pending ∧ t.freeCount = s.freeCount

/-- R181: a RESTART that passes its tests is a reset of kind SERVICE. -/
def Obligations.RestartIsServiceReset : Prop :=
  ∀ (s : State) (inputs : SampledInputs) (rest : List RxFrame),
    s.held = false → s.line.rxQueue = .restart :: rest → s.serviceOpen →
    ∃ t, exec (.restart inputs) s = .next t ∧ exec (.reset .service inputs) s = .next t ∧
      t.store.resetCause = .service ∧ t.phases.phase = .init ∧ t.line.tx ≠ .waiting

/-- R118, R180, R168, R105: what a reset does as it begins to be applied; all the rest stands until its
release (log 8). R183: with two resets applied the first release leaves the column held, and it starts
from the one released last, whose kind is recorded; two is the most there can be (log 28). -/
def Obligations.ResetAppliedHoldsLines : Prop :=
  (∀ s t : State,
    t =
      { s with
        drive :=
          { state := .stopped, duty := 0, direction := .up, runEnable := false,
            brakeReleased := false, dwellTimer := none, settleTimer := none, demandTimer := none }
        sensors := { s.sensors with port := .idle }
        line :=
          { s.line with
            tx := if s.line.tx.isSending then .waiting else s.line.tx
            queue := s.line.queue.map (fun q => { q with sending := false }) }
        store :=
          { s.store with
            record := if s.store.commit = .idle then s.store.record else .broken
            commit := .idle, writeTimer := none }
        resetsApplied := min (s.resetsApplied + 1) 2 } →
    exec .resetApplied s = .next t ∧ t.held = true ∧ t.line.tx.isSending = false) ∧
  (∀ (s : State) (first last : ResetKind) (inputs later : SampledInputs), s.resetsApplied = 2 →
    exec (.reset first inputs) s = .next { s with resetsApplied := 1 } ∧
    State.held { s with resetsApplied := 1 } = true ∧
    ∃ t, exec (.reset last later) { s with resetsApplied := 1 } = .next t ∧
      t.held = false ∧ t.store.resetCause = last ∧ t.phases.phase = .init)

/-! ### Timer expiries -/

/-- R12, R13: a scan takes one from the count of every PRESENT entry, and makes LOST the entries
that reach 0. Where none does, nothing else happens. -/
def Obligations.SilenceScanAgesEntries : Prop :=
  ∀ s : State, s.held = false →
    ∃ t, exec .silenceScanExpiry s = .next t ∧
      t.scanTimer = 20 ∧
      t.peers =
        s.peers.map (fun e =>
          if e.presence = .lost then e
          else if e.silence ≤ 1 then { e with presence := .lost, silence := 0 }
          else { e with silence := e.silence - 1 }) ∧
      t.sensors = s.sensors ∧ t.guards = s.guards ∧ t.store = s.store ∧
      t.line.queue = s.line.queue ∧ t.line.rxQueue = s.line.rxQueue ∧ s.kept t ∧
      ((∀ e ∈ s.peers, e.presence = .present → 1 < e.silence) →
        t = { s with scanTimer := 20, peers := t.peers })

/-- R63, column LOST notice: what the loss of a column does by phase. That READY goes to LISTEN without
a test of completeness there is log 26. -/
def Obligations.LostNoticeActsByPhase : Prop :=
  ∀ s : State, s.held = false → s.haltExact →
    (∃ e ∈ s.peers, e.presence = .present ∧ e.silence ≤ 1) →
    ∃ t, exec .silenceScanExpiry s = .next t ∧
      (s.phases.phase = .init ∨ s.phases.phase = .unconfigured ∨ s.phases.phase = .listen →
        t.phases = s.phases) ∧
      (s.phases.phase = .ready → t.phases.phase = .listen ∧ t.phases.causes = []) ∧
      (s.phases.phase = .seek ∨ s.phases.phase = .seated ∨ s.phases.phase = .lift ∨
          s.phases.phase = .hold ∨ s.phases.phase = .lower ∨ s.phases.phase = .retract ∨
          s.phases.phase = .halted →
        t.phases.phase = .halted ∧ t.phases.causes = s.causesWith .peerSilent)

/-- R89 to R92: a control period expiry counts an overrun, posts both requests and starts a transfer
in an idle port; the third overrun running reports SENSOR_STALE. -/
def Obligations.ControlPeriodPostsRequests : Prop :=
  ∀ (s : State) (late : Bool), s.held = false →
    late = (s.sensors.positionRequest || s.sensors.port == .position) →
    ∃ t, exec .controlPeriodExpiry s = .next t ∧
      t.sensors =
        { s.sensors with
          controlTimer := 10
          overrunCount :=
            if late then min (s.sensors.overrunCount + 1) 3 else s.sensors.overrunCount
          positionRequest := s.sensors.port != .idle
          loadRequest := true
          port := if s.sensors.port = .idle then .position else s.sensors.port } ∧
      (late = false ∨ s.sensors.overrunCount < 2 → t = { s with sensors := t.sensors }) ∧
      (late = true → 2 ≤ s.sensors.overrunCount → s.haltExact →
        t.phases.causes = s.causesWith .sensorStale ∧ t.phases.phase = s.phaseWithCause ∧
        { s with sensors := t.sensors }.onlyPhaseMoved t ∧ s.kept t)

/-- R158, R87, R177, R109, R114, R132, R136: the status, blink, window, dwell and settle timers run
out. That the window timer is idle after its expiry with the SETUP strap fitted too is log 23. -/
def Obligations.TimerExpiriesActOnTheirBlocks : Prop :=
  ∀ s : State, s.held = false →
    (exec .statusTimerExpiry s =
      .next
        { s with
          line :=
            { s.line with
              slot := true, statusTimer := 20
              tx :=
                match s.line.tx with
                | .idle => .waiting
                | .sendingStatus frame _ => .sendingStatus frame true
                | .waiting => .waiting
                | .sendingCommand frame => .sendingCommand frame
                | .disabled => .disabled } }) ∧
    (s.pendant.blinkTimer ≠ none →
      exec .blinkTimerExpiry s =
        .next
          { s with
            pendant :=
              { s.pendant with lampMoving := !s.pendant.lampMoving, blinkTimer := some 250 } }) ∧
    (s.store.windowTimer ≠ none →
      exec .windowTimerExpiry s =
        .next
          { s with
            store :=
              { s.store with
                windowOpen := s.store.windowOpen && s.store.setupStrap, windowTimer := none } }) ∧
    (s.drive.state = .dwell → s.drive.dwellTimer ≠ none →
      exec .dwellExpiry s =
        .next
          { s with
            drive := { s.drive with state := .running, duty := 0, dwellTimer := none }
            checks := { s.checks with stallArmed := true }
            follower := { s.follower with stallRef := none, stallCounter := 0 } }) ∧
    (s.drive.state = .stopped → s.drive.settleTimer ≠ none →
      exec .settleExpiry s =
        .next
          { s with
            drive := { s.drive with settleTimer := none }
            checks := { s.checks with driftRef := s.sensors.height } })

/-- A command that names an event the part is not in a state to see changes nothing (the model's
choice, log 2). -/
def Obligations.CommandsWithoutEventChangeNothing : Prop :=
  ∀ s : State, s.held = false →
    (s.drive.dwellTimer = none → exec .dwellExpiry s = .next s) ∧
    (s.drive.settleTimer = none → exec .settleExpiry s = .next s) ∧
    (s.drive.demandTimer = none → exec .demandTimerExpiry s = .next s) ∧
    (s.pendant.blinkTimer = none → exec .blinkTimerExpiry s = .next s) ∧
    (s.store.windowTimer = none → exec .windowTimerExpiry s = .next s) ∧
    (s.store.commit = .idle → exec .commitCompletion s = .next s) ∧
    (∀ word order, s.sensors.port ≠ .position →
      exec (.positionCompletion word order) s = .next s) ∧
    (∀ word order, s.sensors.port ≠ .load → exec (.loadCompletion word order) s = .next s) ∧
    (∀ (c : ConfigValues) (i : Fin 8), s.store.active = some c →
      s.guards.levels.getLsbD i.val = c.fields.guardPolarity.getLsbD i.val →
      exec (.guardActiveEdge i) s = .next s) ∧
    (s.pendant.raise = true → exec (.motionButtonPress .raise) s = .next s) ∧
    (s.pendant.lower = true → exec (.motionButtonPress .lower) s = .next s) ∧
    (s.pendant.raise = false → exec (.deadManRelease .raise) s = .next s) ∧
    (s.pendant.lower = false → exec (.deadManRelease .lower) s = .next s) ∧
    (s.pendant.ack = true → exec .ackButtonPress s = .next s) ∧
    (s.pendant.mark = true → exec .markButtonPress s = .next s) ∧
    (s.pendant.present = false → exec .pendantRemoved s = .next s) ∧
    (s.line.tx.isSending = false →
      exec .attemptSucceeds s = .next s ∧ exec .transmitError s = .next s ∧
      exec .lostArbitration s = .next s) ∧
    (s.line.rxQueue = [] → ∀ inputs,
      ∀ c ∈ [Instr.status, .raise, .lower, .hold, .estop, .ack, .setMark, .clearMark,
          .commandKindUndefined, .configWrite, .tolRewind, .tolWrite, .commit, .restart inputs,
          .closeSetup],
        exec c s = .next s) ∧
    (∀ frame rest, s.line.rxQueue = frame :: rest →
      ((∀ station fields, frame ≠ .status station fields) → exec .status s = .next s) ∧
      ((∀ station kind arg, frame ≠ .command station kind arg) →
        ∀ c ∈ [Instr.raise, .lower, .hold, .estop, .ack, .setMark, .clearMark,
            .commandKindUndefined],
          exec c s = .next s) ∧
      (∀ station kind arg, frame = .command station kind arg →
        (kind ≠ 1#4 → exec .raise s = .next s) ∧ (kind ≠ 2#4 → exec .lower s = .next s) ∧
        (kind ≠ 3#4 → exec .hold s = .next s) ∧ (kind ≠ 4#4 → exec .estop s = .next s) ∧
        (kind ≠ 5#4 → exec .ack s = .next s) ∧ (kind ≠ 6#4 → exec .setMark s = .next s) ∧
        (kind ≠ 7#4 → exec .clearMark s = .next s) ∧
        (1 ≤ kind.toNat → kind.toNat ≤ 7 → exec .commandKindUndefined s = .next s)) ∧
      (∀ id value, frame = .configWrite id value →
        (id = 21#8 → exec .configWrite s = .next s) ∧
        (id ≠ 21#8 → exec .tolRewind s = .next s)) ∧
      ((∀ id value, frame ≠ .configWrite id value) →
        exec .configWrite s = .next s ∧ exec .tolRewind s = .next s) ∧
      ((∀ value, frame ≠ .tolWrite value) → exec .tolWrite s = .next s) ∧
      (frame ≠ .commit → exec .commit s = .next s) ∧
      (∀ inputs, frame ≠ .restart → exec (.restart inputs) s = .next s) ∧
      (frame ≠ .closeSetup → exec .closeSetup s = .next s))

/-- R116: demands stop coming, so the drive is stopped and DRIVE_STARVED reported. -/
def Obligations.DemandTimerStopsDrive : Prop :=
  ∀ s : State, s.held = false → s.haltExact → s.drive.demandTimer ≠ none →
    ∃ t, exec .demandTimerExpiry s = .next t ∧
      t.drive =
        (if s.drive.state = .stopped then { s.drive with demandTimer := none }
        else
          { s.drive with
            duty := 0, runEnable := false, brakeReleased := false, state := .stopped
            dwellTimer := none, settleTimer := some 100, demandTimer := none }) ∧
      (s.drive.state ≠ .stopped →
        t.checks.stallArmed = false ∧ t.checks.watched = none ∧ t.checks.extreme = none) ∧
      t.phases.causes = s.causesWith .driveStarved ∧ t.phases.phase = s.phaseWithCause ∧
      s.onlyPhaseMoved t ∧ s.kept t

/-- R180: the write completes; the active configuration and the staging copy stand. -/
def Obligations.CommitCompletionWritesRecord : Prop :=
  ∀ (s : State) (values : ConfigValues), s.held = false → s.store.commit = .inFlight values →
    exec .commitCompletion s =
      .next
        { s with
          store :=
            { s.store with
              record :=
                .written values (crc16 ((values.fields.toList ++ values.tol.toList).flatMap wordBytes))
              commit := .idle, writeTimer := none, result := .committed } }

/-! ### Guard lines -/

/-- R141, R146: an active edge of G0, G1 or G3 to G7 from LISTEN on sets the line's latch and reports
its cause; G0 requests an ESTOP first. -/
def Obligations.GuardEdgeLatchesCause : Prop :=
  ∀ (s : State) (c : ConfigValues) (i : Fin 8), s.held = false → s.haltExact →
    s.store.active = some c → i ≠ 2 → c.fields.guardEnable.getLsbD i.val = true →
    s.guards.levels.getLsbD i.val ≠ c.fields.guardPolarity.getLsbD i.val →
    s.phases.phase ≠ .init → s.phases.phase ≠ .unconfigured →
    ∃ t, exec (.guardActiveEdge i) s = .next t ∧
      (∀ j : Fin 8, t.guards.levels.getLsbD j.val =
        (if j = i then c.fields.guardPolarity.getLsbD i.val else s.guards.levels.getLsbD j.val)) ∧
      (∀ j : Fin 8, t.guards.pending.getLsbD j.val =
        (if j = i then true else s.guards.pending.getLsbD j.val)) ∧
      t.phases.causes =
        s.causesWith
          (match i with
          | 0 => .estopInput
          | 1 => .overtravel
          | 2 => .bottomLoaded
          | 3 => .nutWear
          | 4 => .area
          | 5 => .driveFault
          | 6 => .auxA
          | 7 => .auxB) ∧
      t.phases.phase = .halted ∧
      t.drive = driveAfter s.phases.phase .halted s.drive ∧
      t.line.queue =
        (if i = 0 then (requestCommand .estop 0#16 s).line.queue else s.line.queue) ∧
      t.peers = s.peers ∧ t.sensors = s.sensors ∧ t.store = s.store ∧ s.kept t ∧
      t.line.rxQueue = s.line.rxQueue

/-- R142: an active edge in INIT is kept in the latch alone, one in UNCONFIGURED in the level alone.
R139, R141: a disabled line's edge and every inactive edge move the level alone. Without a valid
configuration every taken change of a line is an inactive edge (the model's reading, log 19). -/
def Obligations.GuardEdgesWithoutReport : Prop :=
  ∀ (s : State) (i : Fin 8), s.held = false →
    (s.store.active = none →
      exec (.guardActiveEdge i) s = .next s ∧
      ∃ h : GuardBlock,
        (∀ j : Fin 8, h.levels.getLsbD j.val =
          (if j = i then !s.guards.levels.getLsbD i.val else s.guards.levels.getLsbD j.val)) ∧
        h.pending = s.guards.pending ∧
        exec (.guardInactiveEdge i) s = .next { s with guards := h }) ∧
    (∀ c : ConfigValues, s.store.active = some c →
      ∃ g h : GuardBlock,
        (∀ j : Fin 8, g.levels.getLsbD j.val =
          (if j = i then c.fields.guardPolarity.getLsbD i.val
          else s.guards.levels.getLsbD j.val)) ∧
        (∀ j : Fin 8, h.levels.getLsbD j.val =
          (if j = i then !c.fields.guardPolarity.getLsbD i.val
          else s.guards.levels.getLsbD j.val)) ∧
        h.pending = s.guards.pending ∧
        exec (.guardInactiveEdge i) s = .next { s with guards := h } ∧
        (s.guards.levels.getLsbD i.val ≠ c.fields.guardPolarity.getLsbD i.val →
          (c.fields.guardEnable.getLsbD i.val = true ∧ i ≠ 2 ∧ s.phases.phase = .init →
            (∀ j : Fin 8, g.pending.getLsbD j.val =
              (if j = i then true else s.guards.pending.getLsbD j.val)) ∧
            exec (.guardActiveEdge i) s = .next { s with guards := g }) ∧
          (c.fields.guardEnable.getLsbD i.val = false ∨ s.phases.phase = .unconfigured →
            exec (.guardActiveEdge i) s =
              .next { s with guards := { s.guards with levels := g.levels } })))

/-- R147: an active edge of the bottom limit switch by phase. -/
def Obligations.BottomEdgeActsByPhase : Prop :=
  ∀ (s : State) (c : ConfigValues), s.held = false → s.haltExact → s.store.active = some c →
    c.fields.guardEnable.getLsbD 2 = true →
    s.guards.levels.getLsbD 2 ≠ c.fields.guardPolarity.getLsbD 2 →
    ∃ t, exec (.guardActiveEdge 2) s = .next t ∧
      (∀ j : Fin 8, t.guards.levels.getLsbD j.val =
        (if j = 2 then c.fields.guardPolarity.getLsbD 2 else s.guards.levels.getLsbD j.val)) ∧
      (s.phases.phase = .retract →
        t.phases.phase = .ready ∧ t.guards.pending = s.guards.pending ∧
        t.phases.causes = s.phases.causes ∧
        t.drive = driveAfter .retract .ready s.drive ∧
        { s with guards := t.guards }.onlyPhaseMoved t) ∧
      (s.phases.phase = .lower → s.sensors.contact = true →
        t.phases.phase = .halted ∧
        (∀ j : Fin 8, t.guards.pending.getLsbD j.val =
          (if j = 2 then true else s.guards.pending.getLsbD j.val)) ∧
        t.phases.causes = [.bottomLoaded] ∧ t.drive = driveAfter .lower .halted s.drive ∧
        { s with guards := t.guards }.onlyPhaseMoved t) ∧
      (s.phases.phase ≠ .retract → ¬(s.phases.phase = .lower ∧ s.sensors.contact = true) →
        t = { s with guards := { s.guards with levels := t.guards.levels } })

/-! ### The pendant -/

/-- R81 to R83: a press and a release of a motion button that are acted on. -/
def Obligations.MotionButtonsRequest : Prop :=
  ∀ s : State, s.held = false → s.pendantHeard →
    (s.pendant.lockout = true →
      exec (.motionButtonPress .raise) s =
        .next { s with pendant := { s.pendant with raise := true } } ∧
      exec (.motionButtonPress .lower) s =
        .next { s with pendant := { s.pendant with lower := true } }) ∧
    (s.pendant.lockout = false → s.pendant.raise = false →
      (s.pendant.lower = false → ∀ c, s.store.active = some c →
        exec (.motionButtonPress .raise) s =
          .next
            (requestCommand .raise c.fields.hWork
              { s with pendant := { s.pendant with raise := true, held := some .raise } })) ∧
      (s.pendant.lower = true →
        exec (.motionButtonPress .raise) s =
          .next
            (requestCommand .hold 0#16
              { s with
                pendant := { s.pendant with raise := true, held := none, lockout := true } }))) ∧
    (s.pendant.lockout = false → s.pendant.lower = false →
      (s.pendant.raise = false → ∀ c, s.store.active = some c →
        exec (.motionButtonPress .lower) s =
          .next
            (requestCommand .lower c.fields.hRest
              { s with pendant := { s.pendant with lower := true, held := some .lower } })) ∧
      (s.pendant.raise = true →
        exec (.motionButtonPress .lower) s =
          .next
            (requestCommand .hold 0#16
              { s with
                pendant := { s.pendant with lower := true, held := none, lockout := true } }))) ∧
    (s.pendant.raise = true →
      (s.pendant.lockout = true →
        exec (.deadManRelease .raise) s =
          .next
            { s with
              pendant := { s.pendant with raise := false, lockout := s.pendant.lower } }) ∧
      (s.pendant.lockout = false → s.pendant.held = some .raise →
        exec (.deadManRelease .raise) s =
          .next
            (requestCommand .hold 0#16
              { s with pendant := { s.pendant with raise := false, held := none } })) ∧
      (s.pendant.lockout = false → s.pendant.held ≠ some .raise →
        exec (.deadManRelease .raise) s =
          .next { s with pendant := { s.pendant with raise := false } })) ∧
    (s.pendant.lower = true →
      (s.pendant.lockout = true →
        exec (.deadManRelease .lower) s =
          .next
            { s with
              pendant := { s.pendant with lower := false, lockout := s.pendant.raise } }) ∧
      (s.pendant.lockout = false → s.pendant.held = some .lower →
        exec (.deadManRelease .lower) s =
          .next
            (requestCommand .hold 0#16
              { s with pendant := { s.pendant with lower := false, held := none } })) ∧
      (s.pendant.lockout = false → s.pendant.held ≠ some .lower →
        exec (.deadManRelease .lower) s =
          .next { s with pendant := { s.pendant with lower := false } }))

/-- R84, R85: the ACK and MARK buttons, and the pendant unplugged and plugged in. R80: with no pendant
present, or in INIT or UNCONFIGURED, a button change enters its level and does nothing else. -/
def Obligations.SideButtonsAndPresence : Prop :=
  ∀ s : State, s.held = false →
    (s.pendantHeard → s.pendant.ack = false →
      exec .ackButtonPress s =
        .next
          (requestCommand .ack (s.phases.epoch.setWidth 16)
            { s with pendant := { s.pendant with ack := true } })) ∧
    (s.pendantHeard → s.pendant.mark = false →
      exec .markButtonPress s =
        .next
          (requestCommand (if s.phases.mark = none then .setMark else .clearMark) 0#16
            { s with pendant := { s.pendant with mark := true } })) ∧
    exec (.ackOrMarkRelease .ack) s = .next { s with pendant := { s.pendant with ack := false } } ∧
    exec (.ackOrMarkRelease .mark) s =
      .next { s with pendant := { s.pendant with mark := false } } ∧
    (s.pendant.present = true → s.pendant.held ≠ none →
      exec .pendantRemoved s =
        .next
          (requestCommand .hold 0#16
            { s with
              pendant := { s.pendant with present := false, held := none, lockout := false } })) ∧
    (s.pendant.present = true → s.pendant.held = none →
      exec .pendantRemoved s =
        .next { s with pendant := { s.pendant with present := false, lockout := false } }) ∧
    exec .pendantPlugged s = .next { s with pendant := { s.pendant with present := true } } ∧
    (s.pendant.present = false ∨ s.phases.phase = .init ∨ s.phases.phase = .unconfigured →
      exec (.motionButtonPress .raise) s =
        .next { s with pendant := { s.pendant with raise := true } } ∧
      exec (.motionButtonPress .lower) s =
        .next { s with pendant := { s.pendant with lower := true } } ∧
      exec (.deadManRelease .raise) s =
        .next { s with pendant := { s.pendant with raise := false } } ∧
      exec (.deadManRelease .lower) s =
        .next { s with pendant := { s.pendant with lower := false } } ∧
      exec .ackButtonPress s = .next { s with pendant := { s.pendant with ack := true } } ∧
      exec .markButtonPress s = .next { s with pendant := { s.pendant with mark := true } })

/-! ### The transmit command queue -/

/-- R162 (with R160 for DISABLED): how a request joins the transmit command queue, displaces a
queued command, or is dropped. Nothing else moves but an IDLE transmitter to WAITING. The command
being sent is passed over when one is displaced (log 16). -/
def Obligations.QueueTakesRequests : Prop :=
  ∀ (s : State) (kind : CommandKind) (arg : Word) (q : TxCommand),
    q = { kind := kind, arg := arg, sending := false } →
    (s.line.tx = .disabled → requestCommand kind arg s = s) ∧
    (s.line.tx ≠ .disabled →
      (s.line.queue.length < 4 → kind ≠ .estop →
        requestCommand kind arg s =
          { s with line := { s.line with queue := s.line.queue ++ [q], tx := s.line.tx.wake } }) ∧
      (∀ stops others : List TxCommand,
        s.line.queue.length < 4 → kind = .estop → s.line.queue = stops ++ others →
        (∀ x ∈ stops, x.kind = .estop) → (∀ x ∈ others.head?, x.kind ≠ .estop) →
        requestCommand kind arg s =
          { s with line := { s.line with queue := stops ++ q :: others, tx := s.line.tx.wake } }) ∧
      (4 ≤ s.line.queue.length → kind ≠ .estop → kind ≠ .hold → requestCommand kind arg s = s) ∧
      (4 ≤ s.line.queue.length → (∀ x ∈ s.line.queue, ¬x.givesWay) →
        requestCommand kind arg s = s) ∧
      (∀ (before after : List TxCommand) (x : TxCommand),
        4 ≤ s.line.queue.length → kind = .hold → s.line.queue = before ++ x :: after →
        x.givesWay → (∀ y ∈ after, ¬y.givesWay) →
        requestCommand kind arg s =
          { s with
            line := { s.line with queue := before ++ after ++ [q], tx := s.line.tx.wake } }) ∧
      (∀ (stops before after : List TxCommand) (x : TxCommand),
        4 ≤ s.line.queue.length → kind = .estop → s.line.queue = stops ++ before ++ x :: after →
        x.givesWay → (∀ y ∈ after, ¬y.givesWay) →
        (∀ y ∈ stops, y.kind = .estop) → (∀ y ∈ (before ++ after).head?, y.kind ≠ .estop) →
        requestCommand kind arg s =
          { s with
            line :=
              { s.line with queue := stops ++ q :: (before ++ after), tx := s.line.tx.wake } }))

/-! ### Sensing -/

/-- R90, R92 to R96, R110: what a position completion leaves in the Sensor Port, whatever the order
of its takers; SENSOR_INVALID at the third invalid word running; the demand timer restarted. -/
def Obligations.PositionCompletionScales : Prop :=
  ∀ (s : State) (word : BitVec 18) (order : SampleOrder) (valid : Bool), s.held = false →
    s.sensors.port = .position →
    valid =
      (!word.getLsbD 1 && (List.range 18).countP (fun i => word.getLsbD i) % 2 == 1) →
    ∃ t, exec (.positionCompletion word order) s = .next t ∧
      t.sensors =
        { s.sensors with
          overrunCount := 0
          invalidCount := if valid then 0 else min (s.sensors.invalidCount + 1) 3
          height :=
            match valid, s.store.active with
            | true, some c =>
              some
                (min 24000
                  (((((word.extractLsb' 2 16).toNat : Int) - (c.fields.posZero.toNat : Int)) *
                    100).tdiv (c.fields.posScale.toNat : Int)).toNat)
            | _, _ => s.sensors.height
          positionRequest := false
          loadRequest := s.sensors.loadRequest && s.sensors.positionRequest
          port :=
            if s.sensors.positionRequest then .position
            else if s.sensors.loadRequest then .load
            else .idle } ∧
      t.drive.demandTimer = some 30 ∧
      (valid = false → 2 ≤ s.sensors.invalidCount → s.phases.phase ≠ .init →
        s.phases.phase ≠ .unconfigured → .sensorInvalid ∈ t.phases.causes) ∧
      t.peers = s.peers ∧ t.scanTimer = s.scanTimer ∧ t.store = s.store ∧
      t.line.rxQueue = s.line.rxQueue ∧ t.line.errors = s.line.errors ∧
      t.phases.epoch = s.phases.epoch ∧ t.phases.target = s.phases.target ∧
      t.phases.mark = s.phases.mark ∧ t.guards.levels = s.guards.levels ∧
      (s.phases.phase ≠ .init → t.guards = s.guards ∧ t.line.queue = s.line.queue) ∧
      t.held = false ∧ t.pending = s.pending ∧ t.freeCount = s.freeCount

/-- R97, R96: a position completion hands the stored or held height to the follower, the motion checks
and the phase rules, in the order of the operand, a SENSOR_INVALID report before, among or after them
(log 4, log 31); the checks are told the state the sample was handed in (log 29).
R99, R103: a load completion hands the stored load to the contact qualifier, the overload qualifier and
the start progress; without a valid configuration to the start progress alone, nothing being stored,
last load saturated among what stands (the model's choice, log 27). R93: the next request is then served. -/
def Obligations.SampleTakersInOrder : Prop :=
  (∀ (s : State) (word : BitVec 18) (order : SampleOrder) (valid : Bool), s.held = false →
    s.sensors.port = .position →
    valid =
      (!word.getLsbD 1 && (List.range 18).countP (fun i => word.getLsbD i) % 2 == 1) →
    let stored : State :=
      { s with
        sensors :=
          { s.sensors with
            port := .idle
            overrunCount := 0
            invalidCount := if valid then 0 else min (s.sensors.invalidCount + 1) 3
            height :=
              match valid, s.store.active with
              | true, some c =>
                some
                  (min 24000
                    (((((word.extractLsb' 2 16).toNat : Int) - (c.fields.posZero.toNat : Int)) *
                      100).tdiv (c.fields.posScale.toNat : Int)).toNat)
              | _, _ => s.sensors.height } }
    let follow : State → State := followSample
    let check : State → State := checkMotion valid order stored
    let rule : State → State := positionRules valid
    let reportBad : State → State := fun x =>
      if valid = false ∧ 2 ≤ s.sensors.invalidCount then report .sensorInvalid x else x
    let inOrder : (State → State) × (State → State) × (State → State) :=
      match order.takers with
      | .followerChecksRules => (follow, check, rule)
      | .followerRulesChecks => (follow, rule, check)
      | .checksFollowerRules => (check, follow, rule)
      | .checksRulesFollower => (check, rule, follow)
      | .rulesFollowerChecks => (rule, follow, check)
      | .rulesChecksFollower => (rule, check, follow)
    let x : State :=
      match order.takersBeforeReport with
      | 0 => inOrder.2.2 (inOrder.2.1 (inOrder.1 (reportBad stored)))
      | 1 => inOrder.2.2 (inOrder.2.1 (reportBad (inOrder.1 stored)))
      | 2 => inOrder.2.2 (reportBad (inOrder.2.1 (inOrder.1 stored)))
      | 3 => reportBad (inOrder.2.2 (inOrder.2.1 (inOrder.1 stored)))
    exec (.positionCompletion word order) s = .next { x with sensors := x.sensors.served }) ∧
  (∀ (s : State) (word : BitVec 12) (order : LoadOrder), s.held = false →
    s.sensors.port = .load →
    let u : State := { s with sensors := { s.sensors with port := .idle } }
    (s.store.active = none →
      exec (.loadCompletion word order) s =
        .next { loadRules u with sensors := (loadRules u).sensors.served }) ∧
    (∀ c load, s.store.active = some c →
      load =
        (if word = 4095#12 then
          max
            (min 4000
              (((((word.toNat : Int) - (c.fields.loadZero.toNat : Int)) *
                (c.fields.loadSpan.toNat : Int)).tdiv 1024).toNat))
            c.tol.wCapacity.toNat
        else
          min 4000
            (((((word.toNat : Int) - (c.fields.loadZero.toNat : Int)) *
              (c.fields.loadSpan.toNat : Int)).tdiv 1024).toNat)) →
      let stored : State :=
        { u with
          sensors := { u.sensors with load := some load, lastSaturated := word == 4095#12 } }
      let contact : State → State := qualifyContact c (s.sensors.load.isNone)
      let overload : State → State := qualifyOverload c
      let x : State :=
        match order with
        | .contactOverloadStart => loadRules (overload (contact stored))
        | .overloadContactStart => loadRules (contact (overload stored))
        | .contactStartOverload => overload (loadRules (contact stored))
      exec (.loadCompletion word order) s = .next { x with sensors := x.sensors.served }))

/-- R25 to R30, R33, R34, R37 to R39: the demand and duty of a sample in LIFT and in LOWER that
finds no spread and no arrival. -/
def Obligations.FollowLawDemand : Prop :=
  ∀ (s : State) (c : ConfigValues) (h goal : Nat), s.store.active = some c →
    s.sensors.height = some h → s.spreadWithin c →
    (s.phases.phase = .lift → s.phases.target = some goal → h + 2 < goal →
      ∀ ratio v,
        ratio =
          (match neighbourHeights c s.peers .lift allSlots with
          | none => 0
          | some hs =>
            min
              (min 1024
                (((((c.tol.aLocal.toNat : Int) - ((h - hs.foldl min h : Nat) : Int)) * 1024).tdiv
                  (c.tol.aLocal.toNat : Int)).toNat))
              (min 1024
                (((((c.tol.aGroup.toNat : Int) -
                  ((h - ((presentPeers s.peers).map (fun e => e.height)).foldl min h : Nat) : Int)) *
                    1024).tdiv (c.tol.aGroup.toNat : Int)).toNat))) →
        v = min (c.fields.vNom.toNat * ratio / 1024) (min c.fields.vNom.toNat (4 * (goal - h))) →
        ∀ speed,
          speed =
            (if s.drive.state = .dwell then 0
            else
              min (if v = 0 then 0 else max v c.fields.vCreep.toNat)
                (s.follower.prevDemand + c.fields.rampStep.toNat)) →
          (followSample s).follower.lastDemand =
            { speed := speed, direction := some .up
              duty := min (speed * 1000 / c.fields.vDriveMax.toNat) 1000 } ∧
          (followSample s).follower.prevDemand = speed ∧ (followSample s).phases = s.phases) ∧
    (s.phases.phase = .lower → lineActive s 2 = false →
      goal =
        (match s.phases.mark with
        | none => s.phases.target.getD h
        | some mark => max mark (s.phases.target.getD h)) →
      goal + 2 < h →
      ∀ ratio v,
        ratio =
          (match neighbourHeights c s.peers .lower allSlots with
          | none => 0
          | some hs =>
            min
              (min 1024
                (((((c.tol.aLocal.toNat : Int) - ((hs.foldl max h - h : Nat) : Int)) * 1024).tdiv
                  (c.tol.aLocal.toNat : Int)).toNat))
              (min 1024
                (((((c.tol.aGroup.toNat : Int) -
                  ((((((presentPeers s.peers).filter
                      (fun e => e.phase == .lower || e.phase == .hold || e.phase == .seated)).map
                        (fun e => e.height)).foldl max h) - h : Nat) : Int)) * 1024).tdiv
                    (c.tol.aGroup.toNat : Int)).toNat))) →
        v = min (c.fields.vNom.toNat * ratio / 1024) (min c.fields.vNom.toNat (4 * (h - goal))) →
        ∀ speed,
          speed =
            (if s.drive.state = .dwell then 0
            else
              min (if v = 0 then 0 else max v c.fields.vCreep.toNat)
                (s.follower.prevDemand + c.fields.rampStep.toNat)) →
          (followSample s).follower.lastDemand =
            { speed := speed, direction := some .down
              duty := min (speed * 1000 / c.fields.vDriveMax.toNat) 1000 } ∧
          (followSample s).follower.prevDemand = speed ∧ (followSample s).phases = s.phases)

/-- R35: in LIFT a lead of A_LOCAL over a counted neighbour, or of A_GROUP over a member, stops the
column; in LOWER likewise below the counted ones. -/
def Obligations.LeadAtAllowanceStops : Prop :=
  ∀ (s : State) (c : ConfigValues) (h : Nat), s.store.active = some c → c.inRanges = true →
    s.sensors.height = some h →
    (s.phases.phase = .lift →
      ((∃ slot e, slotState c s.peers slot = .present e ∧ e.height + c.tol.aLocal.toNat ≤ h) ∨
        ∃ e ∈ s.peers, e.presence = .present ∧ e.height + c.tol.aGroup.toNat ≤ h) →
      (followSample s).follower.lastDemand.speed = 0) ∧
    (s.phases.phase = .lower →
      ((∃ slot e, slotState c s.peers slot = .present e ∧
          (e.phase = .lower ∨ e.phase = .hold ∨ e.phase = .seated) ∧
          h + c.tol.aLocal.toNat ≤ e.height) ∨
        ∃ e ∈ s.peers, e.presence = .present ∧
          (e.phase = .lower ∨ e.phase = .hold ∨ e.phase = .seated) ∧
          h + c.tol.aGroup.toNat ≤ e.height) →
      (followSample s).follower.lastDemand.speed = 0) ∧
    (s.phases.phase = .lift ∨ s.phases.phase = .lower →
      (∃ slot, slotState c s.peers slot = .unfilled ∨
        ∃ e, slotState c s.peers slot = .lost e) →
      (followSample s).follower.lastDemand.speed = 0)

/-- R36: the demand of SEEK is V_CREEP, that of RETRACT the approach speed with the creep floor, both
through the ramp. R37, R39, R23: in every phase the demand stays within V_NOM and within RAMP_STEP of
the demand before, its duty within 1 000, and in the stopped phases it is 0 with no direction. R110: a
demand handed restarts the demand timer and sets the duty line by the drive state. -/
def Obligations.DemandWithinRampSetsDuty : Prop :=
  (∀ (s : State) (c : ConfigValues), s.store.active = some c → c.related = true →
    (followSample s).follower.lastDemand.speed ≤ c.fields.vNom.toNat ∧
    (followSample s).follower.lastDemand.speed ≤
      s.follower.prevDemand + c.fields.rampStep.toNat ∧
    (followSample s).follower.lastDemand.duty ≤ 1000 ∧
    (followSample s).follower.prevDemand = (followSample s).follower.lastDemand.speed ∧
    (s.phases.phase.isMotion = false →
      (followSample s).follower.lastDemand = { speed := 0, direction := none, duty := 0 })) ∧
  (∀ (s : State) (c : ConfigValues) (h : Nat), s.store.active = some c →
    s.sensors.height = some h →
    ∀ speed : Nat → Nat,
      (∀ v, speed v =
        (if s.drive.state = .dwell then 0
        else min v (s.follower.prevDemand + c.fields.rampStep.toNat))) →
      (s.phases.phase = .seek →
        (followSample s).follower.lastDemand =
          { speed := speed c.fields.vCreep.toNat, direction := some .up
            duty := min (speed c.fields.vCreep.toNat * 1000 / c.fields.vDriveMax.toNat) 1000 }) ∧
      (∀ goal v, s.phases.phase = .retract → s.phases.target = some goal → goal + 2 < h →
        lineActive s 2 = false →
        v =
          (if min c.fields.vNom.toNat (4 * (h - goal)) = 0 then 0
          else max (min c.fields.vNom.toNat (4 * (h - goal))) c.fields.vCreep.toNat) →
        (followSample s).follower.lastDemand =
          { speed := speed v, direction := some .down
            duty := min (speed v * 1000 / c.fields.vDriveMax.toNat) 1000 })) ∧
  (∀ (s : State) (d : Demand),
    handDemand d s =
      { s with
        follower := { s.follower with prevDemand := d.speed, lastDemand := d }
        drive :=
          { s.drive with
            demandTimer := some 30
            duty :=
              if s.drive.state = .running ∧ d.direction = some s.drive.direction then d.duty
              else 0 } })

/-- R40: a spread of more than twice A_GROUP over the loaded heights is reported, one of exactly that
is not. -/
def Obligations.SpreadHaltsLoadedColumn : Prop :=
  ∀ (s : State) (c : ConfigValues), s.store.active = some c → s.haltExact →
    s.phases.phase = .seated ∨ s.phases.phase = .lift ∨ s.phases.phase = .hold ∨
      s.phases.phase = .lower →
    (¬s.spreadWithin c →
      (followSample s).phases.phase = .halted ∧ (followSample s).phases.causes = [.spread] ∧
      (followSample s).follower.lastDemand = { speed := 0, direction := none, duty := 0 }) ∧
    (s.spreadWithin c → .spread ∉ (followSample s).phases.causes)

/-- R32, R57, R59, R61: a column within 2 of where it is going, or lowering with BOTTOM_LIMIT active,
arrives; one that is not goes on. In LIFT and LOWER the sample is one that reports no SPREAD; in RETRACT
no spread check is made (R40). -/
def Obligations.ArrivalActsByPhase : Prop :=
  ∀ (s : State) (c : ConfigValues) (h goal : Nat), s.store.active = some c →
    s.sensors.height = some h → s.phases.target = some goal →
    (s.phases.phase = .lift → s.spreadWithin c →
      (goal ≤ h + 2 →
        (followSample s).phases =
          { s.phases with phase := .hold, atTarget := true, atMark := false } ∧
        (followSample s).follower.lastDemand.speed = 0) ∧
      (h + 2 < goal → (followSample s).phases = s.phases)) ∧
    (s.phases.phase = .lower → s.spreadWithin c →
      ((∀ mark, s.phases.mark = some mark → mark ≤ goal) →
        (h ≤ goal + 2 ∨ lineActive s 2 = true →
          (followSample s).phases =
            { s.phases with phase := .hold, atTarget := true, atMark := false } ∧
          (followSample s).follower.lastDemand.speed = 0) ∧
        (goal + 2 < h → lineActive s 2 = false → (followSample s).phases = s.phases)) ∧
      (∀ mark, s.phases.mark = some mark → goal < mark →
        (h ≤ mark + 2 ∨ lineActive s 2 = true →
          (followSample s).phases =
            { s.phases with phase := .hold, atTarget := false, atMark := true } ∧
          (followSample s).follower.lastDemand.speed = 0) ∧
        (mark + 2 < h → lineActive s 2 = false → (followSample s).phases = s.phases))) ∧
    (s.phases.phase = .retract →
      (h ≤ goal + 2 ∨ lineActive s 2 = true →
        (followSample s).phases =
          { s.phases with phase := .ready, atTarget := false, atMark := false } ∧
        (followSample s).follower.lastDemand.speed = 0) ∧
      (goal + 2 < h → lineActive s 2 = false → (followSample s).phases = s.phases))

/-- R131: an invalid sample is left out of the three motion checks, a valid one is tested by each, the
stall and wrong-direction checks in the operand's order (log 4). R133, R134, R135, R137: each check at a
valid sample of height `h`, the stall check reading the demand last handed (log 13). R134, R135: where a
"brake set" has come about since the sample was handed in `start`, the operand says which reaches the
checks first; a sample that is first is tested as it was handed and its report joins the halt
(log 29). -/
def Obligations.MotionChecksByTable : Prop :=
  ∀ (s : State) (c : ConfigValues) (h : Nat), s.store.active = some c →
    (∀ (order : SampleOrder) (start : State),
      checkMotion false order start s = s ∧
      (s.sensors.height = some h →
        (order.stallFirst = true →
          checkMotion true order start s =
            driftCheck h
              (takeWrongDirection order.brake start h (takeStall order.brake start h s))) ∧
        (order.stallFirst = false →
          checkMotion true order start s =
            driftCheck h
              (takeStall order.brake start h (takeWrongDirection order.brake start h s))))) ∧
    (∀ (brake : BrakeOrder) (start : State),
      (brake = .brakeSetFirst ∨ start.drive.state = .stopped ∨
          s.phases.phase = start.phases.phase →
        takeStall brake start h s = stallCheck h s ∧
        takeWrongDirection brake start h s = wrongDirectionCheck h s) ∧
      (brake ≠ .brakeSetFirst → start.drive.state ≠ .stopped →
        s.phases.phase ≠ start.phases.phase →
        ∀ (demand : Demand) (stalled wrongWay : Prop),
          demand =
            (if brake = .sampleFirstEarlierDemand then start.follower.lastDemand
            else s.follower.lastDemand) →
          (stalled ↔
            start.checks.stallArmed = true ∧ c.fields.vCreep.toNat ≤ demand.speed ∧
              149 ≤ start.follower.stallCounter ∧
              ∃ ref, start.follower.stallRef = some ref ∧ h ≤ ref + 1 ∧ ref ≤ h + 1) →
          (wrongWay ↔
            ∃ x, start.checks.extreme = some x ∧
              ((start.checks.watched = some .up ∧ h + 4 ≤ x) ∨
                (start.checks.watched = some .down ∧ x + 4 ≤ h))) →
          (stalled → takeStall brake start h s = report .stall s) ∧
          (¬stalled → takeStall brake start h s = s) ∧
          (wrongWay → takeWrongDirection brake start h s = report .wrongDirection s) ∧
          (¬wrongWay → takeWrongDirection brake start h s = s))) ∧
    (s.checks.stallArmed = false → stallCheck h s = s) ∧
    (s.checks.stallArmed = true →
      (s.follower.stallRef = none ∨ s.follower.lastDemand.speed < c.fields.vCreep.toNat →
        stallCheck h s =
          { s with follower := { s.follower with stallRef := some h, stallCounter := 0 } }) ∧
      (∀ ref, s.follower.stallRef = some ref →
        c.fields.vCreep.toNat ≤ s.follower.lastDemand.speed →
        (ref + 2 ≤ h ∨ h + 2 ≤ ref →
          stallCheck h s =
            { s with follower := { s.follower with stallRef := some h, stallCounter := 0 } }) ∧
        (h ≤ ref + 1 → ref ≤ h + 1 →
          (s.follower.stallCounter < 149 →
            stallCheck h s =
              { s with
                follower := { s.follower with stallCounter := s.follower.stallCounter + 1 } }) ∧
          (149 ≤ s.follower.stallCounter →
            stallCheck h s =
              report .stall
                { s with
                  follower := { s.follower with stallRef := some h, stallCounter := 0 } })))) ∧
    (s.checks.watched = none → wrongDirectionCheck h s = s) ∧
    (s.checks.watched ≠ none → s.checks.extreme = none →
      wrongDirectionCheck h s = { s with checks := { s.checks with extreme := some h } }) ∧
    (∀ x, s.checks.extreme = some x →
      (s.checks.watched = some .up →
        (x < h → wrongDirectionCheck h s = { s with checks := { s.checks with extreme := some h } }) ∧
        (h ≤ x → x < h + 4 → wrongDirectionCheck h s = s) ∧
        (h + 4 ≤ x → wrongDirectionCheck h s = report .wrongDirection s)) ∧
      (s.checks.watched = some .down →
        (h < x → wrongDirectionCheck h s = { s with checks := { s.checks with extreme := some h } }) ∧
        (x ≤ h → h < x + 4 → wrongDirectionCheck h s = s) ∧
        (x + 4 ≤ h → wrongDirectionCheck h s = report .wrongDirection s))) ∧
    (s.checks.driftRef = none → driftCheck h s = s) ∧
    (∀ ref, s.checks.driftRef = some ref →
      (ref ≤ h + c.tol.driftLimit.toNat → h ≤ ref + c.tol.driftLimit.toNat →
        driftCheck h s = s) ∧
      (h + c.tol.driftLimit.toNat < ref ∨ ref + c.tol.driftLimit.toNat < h →
        driftCheck h s = report .drift s))

/-- R46, R47, R53, R54: the phase rules at a position sample in SEEK, contact before travel (log 15),
and the exit from INIT at a position or load sample. R48, R51, R144, R146: the entry into LISTEN then
takes the guard lines in order G0 to G7, each enabled one that is pending, or active and not G2,
reporting its cause, G0 after its ESTOP request; and a column still in LISTEN leaves it at once when
its group is complete, as log 25 reads completeness. -/
def Obligations.PhaseRulesAtSample : Prop :=
  ∀ (s : State) (valid : Bool),
    (s.phases.phase = .seek → s.sensors.contact = true →
      (positionRules valid s).phases.phase = (if seatingHolds s then .lift else .seated)) ∧
    (∀ c h start, s.phases.phase = .seek → s.sensors.contact = false → s.store.active = some c →
      s.sensors.height = some h → s.phases.seekStart = some start →
      (h ≤ start + c.tol.seekMax.toNat → positionRules valid s = s) ∧
      (start + c.tol.seekMax.toNat < h → positionRules valid s = report .noContact s)) ∧
    (∀ c x, s.store.active = some c → s.phases.phase = .init →
      x = [0, 1, 2, 3, 4, 5, 6, 7].foldl (State.lineTaken c) (changePhase .listen s) →
      (x.phases.phase = .listen → groupComplete s = true →
        enterListenFromInit s = changePhase (if s.sensors.contact then .hold else .ready) x) ∧
      (x.phases.phase ≠ .listen ∨ groupComplete s = false → enterListenFromInit s = x)) ∧
    (s.phases.phase = .init →
      (s.store.active = none ∨ s.store.station = 0#6 ∨ 48 < s.store.station.toNat →
        (positionRules valid s).phases.phase = .unconfigured ∧
        (loadRules s).phases = { s.phases with loadSeen := true }) ∧
      (s.store.active ≠ none → 1 ≤ s.store.station.toNat → s.store.station.toNat ≤ 48 →
        ((s.phases.positionSeen || valid) = true → s.phases.loadSeen = true →
          positionRules valid s =
            enterListenFromInit
              { s with phases := { s.phases with positionSeen := true } }) ∧
        ((s.phases.positionSeen || valid) = false ∨ s.phases.loadSeen = false →
          (positionRules valid s).phases =
            { s.phases with positionSeen := s.phases.positionSeen || valid }) ∧
        (s.phases.positionSeen = true →
          loadRules s = enterListenFromInit { s with phases := { s.phases with loadSeen := true } }) ∧
        (s.phases.positionSeen = false →
          loadRules s = { s with phases := { s.phases with loadSeen := true } })))

/-- R92, R93, R98, R100 to R103: what a load completion leaves in the Sensor Port, whatever the order
of its takers, and OVERLOAD at a full overload run. -/
def Obligations.LoadCompletionQualifies : Prop :=
  ∀ (s : State) (word : BitVec 12) (order : LoadOrder), s.held = false →
    s.sensors.port = .load →
    ∃ t, exec (.loadCompletion word order) s = .next t ∧
      t.sensors.positionRequest = false ∧
      t.sensors.loadRequest = (s.sensors.loadRequest && s.sensors.positionRequest) ∧
      t.sensors.port =
        (if s.sensors.positionRequest then .position
        else if s.sensors.loadRequest then .load
        else .idle) ∧
      t.sensors.overrunCount = s.sensors.overrunCount ∧
      t.sensors.invalidCount = s.sensors.invalidCount ∧ t.sensors.height = s.sensors.height ∧
      t.peers = s.peers ∧ t.store = s.store ∧ t.line.rxQueue = s.line.rxQueue ∧
      t.sensors.controlTimer = s.sensors.controlTimer ∧ t.scanTimer = s.scanTimer ∧
      t.line.errors = s.line.errors ∧ t.phases.epoch = s.phases.epoch ∧
      t.phases.target = s.phases.target ∧ t.phases.mark = s.phases.mark ∧
      t.drive.demandTimer = s.drive.demandTimer ∧ t.guards.levels = s.guards.levels ∧
      (s.phases.phase ≠ .init → t.guards = s.guards ∧ t.line.queue = s.line.queue) ∧
      t.held = false ∧ t.pending = s.pending ∧ t.freeCount = s.freeCount ∧
      (s.store.active = none →
        t.sensors.load = s.sensors.load ∧ t.sensors.contact = s.sensors.contact ∧
        t.sensors.contactRun = s.sensors.contactRun ∧
        t.sensors.overloadRun = s.sensors.overloadRun) ∧
      (∀ c w run, s.store.active = some c →
        w =
          (if word = 4095#12 then
            max
              (min 4000
                (((((word.toNat : Int) - (c.fields.loadZero.toNat : Int)) *
                  (c.fields.loadSpan.toNat : Int)).tdiv 1024).toNat))
              c.tol.wCapacity.toNat
          else
            min 4000
              (((((word.toNat : Int) - (c.fields.loadZero.toNat : Int)) *
                (c.fields.loadSpan.toNat : Int)).tdiv 1024).toNat)) →
        run =
          (if c.fields.ovlQualify = 0#16 then 3
          else if c.fields.ovlQualify = 1#16 then 6
          else if c.fields.ovlQualify = 2#16 then 12
          else 24) →
        t.sensors.load = some w ∧ t.sensors.lastSaturated = (word == 4095#12) ∧
        (s.sensors.load = none →
          t.sensors.contact = decide (c.tol.wContact.toNat ≤ w) ∧
          t.sensors.contactRun = s.sensors.contactRun) ∧
        (s.sensors.load ≠ none → s.sensors.contact = false →
          (w < c.tol.wContact.toNat → t.sensors.contact = false ∧ t.sensors.contactRun = 0) ∧
          (c.tol.wContact.toNat ≤ w → s.sensors.contactRun < 3 →
            t.sensors.contact = false ∧ t.sensors.contactRun = s.sensors.contactRun + 1) ∧
          (c.tol.wContact.toNat ≤ w → 3 ≤ s.sensors.contactRun →
            t.sensors.contact = true ∧ t.sensors.contactRun = 0)) ∧
        (s.sensors.load ≠ none → s.sensors.contact = true →
          (c.tol.wContact.toNat - c.tol.wContact.toNat / 8 ≤ w →
            t.sensors.contact = true ∧ t.sensors.contactRun = 0) ∧
          (w < c.tol.wContact.toNat - c.tol.wContact.toNat / 8 → s.sensors.contactRun < 3 →
            t.sensors.contact = true ∧ t.sensors.contactRun = s.sensors.contactRun + 1) ∧
          (w < c.tol.wContact.toNat - c.tol.wContact.toNat / 8 → 3 ≤ s.sensors.contactRun →
            t.sensors.contact = false ∧ t.sensors.contactRun = 0)) ∧
        (w < c.tol.wCapacity.toNat → t.sensors.overloadRun = 0) ∧
        (c.tol.wCapacity.toNat ≤ w →
          t.sensors.overloadRun = min (s.sensors.overloadRun + 1) run ∧
          (run ≤ s.sensors.overloadRun + 1 → s.phases.phase ≠ .init →
            s.phases.phase ≠ .unconfigured → .overload ∈ t.phases.causes)))

/-- R100 to R102: what the two qualifiers make of a stored load, and when they hand on their events.
R62: the contact qualifier's two events by phase. -/
def Obligations.ContactEventsActByPhase : Prop :=
  (∀ (s : State) (c : ConfigValues) (load : Nat), s.sensors.load = some load →
    qualifyContact c true s =
      { s with sensors := { s.sensors with contact := decide (c.tol.wContact.toNat ≤ load) } } ∧
    (s.sensors.contact = false →
      (load < c.tol.wContact.toNat →
        qualifyContact c false s = { s with sensors := { s.sensors with contactRun := 0 } }) ∧
      (c.tol.wContact.toNat ≤ load → s.sensors.contactRun < 3 →
        qualifyContact c false s =
          { s with sensors := { s.sensors with contactRun := s.sensors.contactRun + 1 } }) ∧
      (c.tol.wContact.toNat ≤ load → 3 ≤ s.sensors.contactRun →
        qualifyContact c false s =
          contactSet { s with sensors := { s.sensors with contact := true, contactRun := 0 } })) ∧
    (s.sensors.contact = true →
      (c.tol.wContact.toNat - c.tol.wContact.toNat / 8 ≤ load →
        qualifyContact c false s = { s with sensors := { s.sensors with contactRun := 0 } }) ∧
      (load < c.tol.wContact.toNat - c.tol.wContact.toNat / 8 → s.sensors.contactRun < 3 →
        qualifyContact c false s =
          { s with sensors := { s.sensors with contactRun := s.sensors.contactRun + 1 } }) ∧
      (load < c.tol.wContact.toNat - c.tol.wContact.toNat / 8 → 3 ≤ s.sensors.contactRun →
        qualifyContact c false s =
          contactCleared
            { s with sensors := { s.sensors with contact := false, contactRun := 0 } })) ∧
    (load < c.tol.wCapacity.toNat →
      qualifyOverload c s = { s with sensors := { s.sensors with overloadRun := 0 } }) ∧
    (∀ q, q =
        (if c.fields.ovlQualify = 0#16 then 3
        else if c.fields.ovlQualify = 1#16 then 6
        else if c.fields.ovlQualify = 2#16 then 12
        else 24) →
      c.tol.wCapacity.toNat ≤ load →
      (s.sensors.overloadRun + 1 < q →
        qualifyOverload c s =
          { s with sensors := { s.sensors with overloadRun := s.sensors.overloadRun + 1 } }) ∧
      (q ≤ s.sensors.overloadRun + 1 →
        qualifyOverload c s =
          report .overload { s with sensors := { s.sensors with overloadRun := q } }))) ∧
  ∀ s : State, s.haltExact →
    (s.phases.phase = .seek →
      (contactSet s).phases.phase = (if seatingHolds s then .lift else .seated) ∧
      (contactSet s).phases.causes = s.phases.causes) ∧
    (s.phases.phase ≠ .seek → contactSet s = s) ∧
    (s.phases.phase = .seated ∨ s.phases.phase = .lift ∨ s.phases.phase = .hold →
      (contactCleared s).phases.phase = .halted ∧ (contactCleared s).phases.causes = [.loadLost] ∧
      (contactCleared s).drive = driveAfter s.phases.phase .halted s.drive) ∧
    (s.phases.phase = .lower →
      (contactCleared s).phases =
        { s.phases with phase := .retract, atTarget := false, atMark := false } ∧
      (contactCleared s).drive = s.drive ∧ (contactCleared s).follower.prevDemand = 0) ∧
    (s.phases.phase ≠ .seated → s.phases.phase ≠ .lift → s.phases.phase ≠ .hold →
      s.phases.phase ≠ .lower → contactCleared s = s)

/-! ### Phases and causes -/

/-- R43 with R38, R86, R87, R108, R111, R112, R114, R132, R135, R136, R158: every effect of a change of
phase, and none when the phase is already held. -/
def Obligations.ChangeOfPhaseEffects : Prop :=
  ∀ (s : State) (new : Phase),
    (s.phases.phase = new → changePhase new s = s) ∧
    (s.phases.phase ≠ new → ∀ starts stops : Bool,
      (starts = true ↔ s.phases.phase.isMotion = false ∧ new.isMotion = true) →
      (stops = true ↔
        s.phases.phase.isMotion = true ∧ new.isMotion = false ∧ s.drive.state ≠ .stopped) →
      changePhase new s =
        { s with
          phases := { s.phases with phase := new, atTarget := false, atMark := false }
          line :=
            { s.line with
              slot := true, statusTimer := 20
              tx :=
                match s.line.tx with
                | .idle => .waiting
                | .sendingStatus frame _ => .sendingStatus frame true
                | .waiting => .waiting
                | .sendingCommand frame => .sendingCommand frame
                | .disabled => .disabled }
          follower :=
            { s.follower with
              prevDemand := if new.isMotion then 0 else s.follower.prevDemand
              stallRef := if stops then none else s.follower.stallRef
              stallCounter := if stops then 0 else s.follower.stallCounter }
          drive := driveAfter s.phases.phase new s.drive
          checks :=
            { s.checks with
              stallArmed := if stops then false else s.checks.stallArmed
              watched :=
                if starts then some (if new = .seek ∨ new = .lift then .up else .down)
                else if stops then none
                else s.checks.watched
              extreme := if starts || stops then none else s.checks.extreme
              driftRef := if starts then none else s.checks.driftRef }
          pendant :=
            { s.pendant with
              lampReady := decide (new = .ready ∨ new = .hold), lampMoving := new.isMotion
              lampFault := decide (new = .halted), blinkTimer := none } })

/-- R120, R64: a report is dropped, changes nothing, or latches its cause at the list's end, enters
HALTED with every effect of that change of phase, fills the status slot, and does nothing else. -/
def Obligations.ReportLatchesCause : Prop :=
  ∀ (s : State) (cause : Cause),
    (s.phases.phase = .init ∨ s.phases.phase = .unconfigured → report cause s = s) ∧
    (cause ∈ s.phases.causes → report cause s = s) ∧
    (s.phases.phase ≠ .init → s.phases.phase ≠ .unconfigured → cause ∉ s.phases.causes →
      (report cause s).phases.causes = s.phases.causes ++ [cause] ∧
      (report cause s).phases.origin = s.phases.origin ∧
      (report cause s).phases.phase = .halted ∧
      (report cause s).line.slot = true ∧ (report cause s).line.statusTimer = 20 ∧
      (report cause s).drive = driveAfter s.phases.phase .halted s.drive ∧
      s.onlyPhaseMoved (report cause s) ∧ s.kept (report cause s) ∧
      ∀ u : State,
        u = changePhase .halted
          { s with phases := { s.phases with causes := s.phases.causes ++ [cause] } } →
        report cause s =
          { u with
            line :=
              { u.line with
                slot := true, statusTimer := 20
                tx :=
                  match u.line.tx with
                  | .idle => .waiting
                  | .sendingStatus frame _ => .sendingStatus frame true
                  | .waiting => .waiting
                  | .sendingCommand frame => .sendingCommand frame
                  | .disabled => .disabled } })

/-! ### The Lift Line -/

/-- R163 to R165: which frames on the line are taken, which are dropped, and which report
DUPLICATE_STATION. A receiver that waits for the idle line passes over the frame under way (log 9). A
STATUS of own number under a strap outside 1..48 joins the queue (the model's choice, log 30). -/
def Obligations.FramesAreFiltered : Prop :=
  ∀ (s : State) (bytes : List Byte) (framingError startedAtIdle : Bool), s.held = false →
    (s.line.tx.isSending = true →
      exec (.frameReceived bytes framingError startedAtIdle) s = .next s) ∧
    (∀ u : State, u = { s with line := { s.line with rxWaitsIdle := false } } →
      s.line.tx.isSending = false →
      (s.line.rxWaitsIdle = true ∧ startedAtIdle = false ∨ goodFrame bytes framingError = none →
        exec (.frameReceived bytes framingError startedAtIdle) s = .next u) ∧
      (∀ f : LineFrame, goodFrame bytes framingError = some f →
        s.line.rxWaitsIdle = false ∨ startedAtIdle = true →
        (∀ fields, f.body = .status fields →
          ((∀ c, s.store.active = some c → f.group ≠ c.fields.group.setWidth 4) →
            exec (.frameReceived bytes framingError startedAtIdle) s = .next u) ∧
          (∀ c, s.store.active = some c → f.group = c.fields.group.setWidth 4 →
            (f.station = s.store.station → isColumnStation s.store.station = true →
              exec (.frameReceived bytes framingError startedAtIdle) s =
                .next (report .duplicateStation u)) ∧
            (f.station ≠ s.store.station ∨ isColumnStation s.store.station = false →
              exec (.frameReceived bytes framingError startedAtIdle) s =
                .next (arriveFrame (.status f.station fields) u)))) ∧
        (∀ kind arg, f.body = .command kind arg →
          ((∀ c, s.store.active = some c → f.group ≠ c.fields.group.setWidth 4) →
            exec (.frameReceived bytes framingError startedAtIdle) s = .next u) ∧
          (∀ c, s.store.active = some c → f.group = c.fields.group.setWidth 4 →
            exec (.frameReceived bytes framingError startedAtIdle) s =
              .next (arriveFrame (.command f.station kind arg) u))) ∧
        (∀ (target : BitVec 6) (frame : RxFrame),
          ((∃ id value, f.body = .configWrite target id value ∧
              frame = .configWrite id value) ∨
            (∃ value, f.body = .tolWrite target value ∧ frame = .tolWrite value) ∨
            (f.body = .commit target ∧ frame = .commit) ∨
            (f.body = .restart target ∧ frame = .restart) ∨
            (f.body = .closeSetup target ∧ frame = .closeSetup)) →
          ∀ taken : Bool,
            (taken = true ↔
              f.station = 0#6 ∧
              ((target = s.store.station ∧ isColumnStation s.store.station = true) ∨
                (f.body = .closeSetup target ∧ target = 63#6)) ∧
              ((∃ c, s.store.active = some c ∧ f.group = c.fields.group.setWidth 4) ∨
                (f.group = 0#4 ∧ s.phases.phase = .unconfigured))) →
            exec (.frameReceived bytes framingError startedAtIdle) s =
              .next (if taken then arriveFrame frame u else u))))

/-- R167: arrivals at the receive queue, with room and without. -/
def Obligations.ReceiveQueueArrivals : Prop :=
  ∀ (s : State) (frame : RxFrame),
    (s.line.rxQueue.length < 8 →
      arriveFrame frame s =
        { s with line := { s.line with rxQueue := s.line.rxQueue ++ [frame] } }) ∧
    (8 ≤ s.line.rxQueue.length →
      ((∀ station kind arg, frame ≠ .command station kind arg) → arriveFrame frame s = s) ∧
      (∀ station kind arg, frame = .command station kind arg →
        ((∀ st f, .status st f ∉ s.line.rxQueue) →
          arriveFrame frame s = report .receiveOverrun s) ∧
        (∀ before after st f, s.line.rxQueue = before ++ .status st f :: after →
          (∀ st' f', .status st' f' ∉ before) →
          arriveFrame frame s =
            { s with line := { s.line with rxQueue := before ++ after ++ [frame] } })))

/-- R157, R152 to R154, R104, R122, R49: an attempt sends the head command, or else the status frame with
its fields as they stand; with nothing to send, or outside WAITING, no attempt is made (log 2). An
attempt of its own ends the receiver's wait for the idle line (log 9). -/
def Obligations.AttemptSendsHead : Prop :=
  ∀ (s : State) (group : BitVec 4) (fields : StatusFields), s.held = false →
    group =
      (match s.store.active with
      | some c => c.fields.group.setWidth 4
      | none => 0#4) →
    fields =
      { line :=
          match s.store.active with
          | some c => c.fields.line.setWidth 5
          | none => 0#5
        side :=
          match s.store.active with
          | some c => c.fields.side != 0#16
          | none => false
        phase := BitVec.ofNat 4 (phasesByCode.idxOf s.phases.phase)
        contact := s.sensors.contact
        atTarget := s.phases.atTarget
        markSet := s.phases.mark.isSome
        atMark := s.phases.atMark
        setupOpen := s.store.windowOpen
        height := BitVec.ofNat 15 (s.sensors.height.getD 0)
        load := BitVec.ofNat 12 (s.sensors.load.getD 0)
        haltKind :=
          match s.phases.causes, s.phases.origin with
          | [], none => 0#2
          | _ :: _, _ => 1#2
          | [], some _ => 2#2
        causeOrOrigin :=
          match s.phases.causes, s.phases.origin with
          | [], none => 0#6
          | cause :: _, _ => BitVec.ofNat 6 (causesByCode.idxOf cause + 1)
          | [], some origin => BitVec.ofNat 6 origin
        epoch := s.phases.epoch
        digest := s.store.ownDigest.getD 0#16
        resetCause := BitVec.ofNat 2 (resetKindsByCode.idxOf s.store.resetCause)
        configResult := BitVec.ofNat 3 (resultsByCode.idxOf s.store.result) } →
    (s.line.tx ≠ .waiting → exec .attempt s = .next s) ∧
    (s.line.tx = .waiting →
      (∀ q rest, s.line.queue = q :: rest →
        exec .attempt s =
          .next
            { s with
              line :=
                { s.line with
                  tx :=
                    .sendingCommand
                      (buildFrame (if q.kind = .estop then 0#2 else 1#2) s.store.station 2#4
                        group (bytes32 (q.kind.code ++ q.arg ++ 0#12)))
                  queue := { q with sending := true } :: rest
                  rxWaitsIdle := false } }) ∧
      (s.line.queue = [] → s.line.slot = true →
        exec .attempt s =
          .next
            { s with
              line :=
                { s.line with
                  tx :=
                    .sendingStatus
                      (buildFrame 2#2 s.store.station 1#4 group (bytes80 (fields.onLine 0#5)))
                      false
                  rxWaitsIdle := false } }) ∧
      (s.line.queue = [] → s.line.slot = false → exec .attempt s = .next s))

/-- R159: a success clears the error count; a sent command leaves the queue and its copy, built from the
queue's entry (log 18), arrives in the receive queue; a sent status frame empties the slot unless it
was filled again. R155, R160: a lost arbitration waits again; a transmit error counts, and the eighth
running empties the queue, disables the transmitter and reports LINE_FAULT; after an error the
receiver waits for the idle line (R163, log 9). -/
def Obligations.AttemptOutcomes : Prop :=
  ∀ s : State, s.held = false →
    (∀ frame before q after, s.line.tx = .sendingCommand frame →
      s.line.queue = before ++ q :: after → q.sending = true → (∀ x ∈ before, x.sending = false) →
      exec .attemptSucceeds s =
        .next
          (arriveFrame (.command s.store.station q.kind.code q.arg)
            { s with
              line :=
                { s.line with
                  errors := 0, queue := before ++ after
                  tx := if before ++ after = [] ∧ s.line.slot = false then .idle else .waiting } })) ∧
    (∀ frame refilled, s.line.tx = .sendingStatus frame refilled →
      exec .attemptSucceeds s =
        .next
          { s with
            line :=
              { s.line with
                errors := 0, slot := refilled, statusTimer := 20
                tx := if s.line.queue = [] ∧ refilled = false then .idle else .waiting } }) ∧
    (s.line.tx.isSending = true →
      exec .lostArbitration s =
        .next
          { s with
            line :=
              { s.line with
                tx := .waiting
                queue := s.line.queue.map (fun q => { q with sending := false }) } } ∧
      (s.line.errors < 7 →
        exec .transmitError s =
          .next
            { s with
              line :=
                { s.line with
                  errors := s.line.errors + 1, tx := .waiting, rxWaitsIdle := true
                  queue := s.line.queue.map (fun q => { q with sending := false }) } }) ∧
      (7 ≤ s.line.errors →
        exec .transmitError s =
          .next
            (report .lineFault
              { s with
                line :=
                  { s.line with
                    errors := 8, tx := .disabled, queue := [], rxWaitsIdle := true } })))

/-! ### Status frames -/

/-- R2 to R8, R14: a STATUS frame handed to the Peer Table is discarded, clashes, or creates, updates
or moves its station's entry and no other. -/
def Obligations.StatusStoredInTable : Prop :=
  ∀ (s : State) (station : BitVec 6) (f : StatusFields) (rest : List RxFrame), s.held = false →
    s.line.rxQueue = .status station f :: rest →
    (s.store.active = none ∨ station = 0#6 ∨ 48 < station.toNat ∨ station = s.store.station ∨
        23 < f.line.toNat ∨ 10 < f.phase.toNat ∨ f.haltKind = 3#2 ∨ 24000 < f.height.toNat ∨
        4000 < f.load.toNat ∨
        (f.haltKind = 1#2 ∧ (f.causeOrOrigin = 0#6 ∨ 26 < f.causeOrOrigin.toNat)) ∨
        (f.haltKind = 2#2 ∧ (f.causeOrOrigin = 0#6 ∨ 48 < f.causeOrOrigin.toNat)) →
      exec .status s = .next (s.afterHanding rest)) ∧
    (∀ c : ConfigValues, s.store.active = some c → station ≠ 0#6 → station.toNat ≤ 48 →
      station ≠ s.store.station → f.line.toNat ≤ 23 → f.phase.toNat ≤ 10 → f.haltKind ≠ 3#2 →
      f.height.toNat ≤ 24000 → f.load.toNat ≤ 4000 →
      (f.haltKind = 1#2 → f.causeOrOrigin ≠ 0#6 ∧ f.causeOrOrigin.toNat ≤ 26) →
      (f.haltKind = 2#2 → f.causeOrOrigin ≠ 0#6 ∧ f.causeOrOrigin.toNat ≤ 48) →
      ∃ e : PeerEntry, e.givenBy station f c s.store.ownDigest ∧
        (s.positionTaken c station.toNat e.line e.side →
          (∀ old, findPeer s.peers station.toNat = some old →
            old.line ≠ e.line ∨ old.side ≠ e.side) →
          exec .status s = .next (report .positionClash (s.afterHanding rest))) ∧
        (¬s.positionTaken c station.toNat e.line e.side ∨
            (∃ old, findPeer s.peers station.toNat = some old ∧ old.line = e.line ∧
              old.side = e.side) →
          ∃ t, exec .status s = .next t ∧ findPeer t.peers station.toNat = some e ∧
            (∀ n, n ≠ station.toNat → findPeer t.peers n = findPeer s.peers n) ∧
            t.line.rxQueue = rest ∧ t.line.queue = s.line.queue ∧ t.sensors = s.sensors ∧
            t.store = s.store ∧ t.scanTimer = s.scanTimer ∧ t.guards.levels = s.guards.levels ∧
            t.resetsApplied = 0 ∧ t.pending = s.pending))

/-- R9 to R11, R19, R51, R56, R87: the items of a stored frame in their order, the blinking lamp
re-evaluated at the storing, and the seating condition at the end; completeness is read as log 25
says. R63, R127 to R129: the epoch, restarted, mismatch and halt items by phase. -/
def Obligations.StatusNoticeItems : Prop :=
  (∀ (s : State) (station : BitVec 6) (f : StatusFields) (rest : List RxFrame) (c : ConfigValues)
      (e : PeerEntry) (restarted : Bool),
    s.held = false → s.line.rxQueue = .status station f :: rest → s.store.active = some c →
    station ≠ 0#6 → station.toNat ≤ 48 → station ≠ s.store.station →
    e.givenBy station f c s.store.ownDigest →
    (¬s.positionTaken c station.toNat e.line e.side ∨
      (∃ old, findPeer s.peers station.toNat = some old ∧ old.line = e.line ∧
        old.side = e.side)) →
    (restarted = true ↔ s.seesRestart e) →
    let stored : State := updateBlink { s.afterHanding rest with peers := storePeer e s.peers }
    let item1 : State := epochItem f.epoch stored
    let item2 : State := if restarted then restartedNotice item1 else item1
    let item3 : State := if e.digestMatch then item2 else mismatchNotice item2
    let item4 : State := haltItem station.toNat f.epoch e.halt item3
    let item5 : State :=
      if groupComplete s = false ∧ groupComplete stored = true ∧ item4.phases.phase = .listen then
        changePhase (if s.sensors.contact then .hold else .ready) item4
      else item4
    (item5.phases.phase ≠ .seated → exec .status s = .next item5) ∧
    (item5.phases.phase = .seated →
      let counted : State :=
        { item5 with phases := { item5.phases with seatedCount := countSeated stored.peers } }
      exec .status s =
        .next (if seatingHolds stored then changePhase .lift counted else counted))) ∧
  ∀ (s : State) (station : Nat) (epoch : BitVec 4) (cause : Cause),
    (s.phases.phase = .init ∨ s.phases.phase = .unconfigured ∨ s.phases.phase = .listen →
      epochItem epoch s = { s with phases := { s.phases with epoch := epoch } } ∧
      restartedNotice s = s ∧ mismatchNotice s = s ∧
      haltItem station epoch (.localCause cause) s = s) ∧
    (s.phases.phase ≠ .init → s.phases.phase ≠ .unconfigured → s.phases.phase ≠ .listen →
      (epoch = s.phases.epoch + 1#4 → epochItem epoch s = acknowledge s) ∧
      (epoch ≠ s.phases.epoch + 1#4 → epochItem epoch s = s) ∧
      (epoch ≠ s.phases.epoch → haltItem station epoch (.localCause cause) s = s) ∧
      (epoch = s.phases.epoch →
        (s.phases.origin ≠ none → haltItem station epoch (.localCause cause) s = s) ∧
        (s.phases.origin = none →
          (haltItem station epoch (.localCause cause) s).phases.origin = some station ∧
          (haltItem station epoch (.localCause cause) s).phases.phase = .halted ∧
          (haltItem station epoch (.localCause cause) s).phases.causes = s.phases.causes ∧
          (haltItem station epoch (.localCause cause) s).line.slot = true ∧
          (haltItem station epoch (.localCause cause) s).line.statusTimer = 20))) ∧
    (s.phases.phase = .seek ∨ s.phases.phase = .seated ∨ s.phases.phase = .lift ∨
        s.phases.phase = .hold ∨ s.phases.phase = .lower ∨ s.phases.phase = .retract →
      restartedNotice s = report .peerRestarted s ∧
      mismatchNotice s = report .configMismatch s) ∧
    (s.phases.phase = .ready ∨ s.phases.phase = .halted →
      restartedNotice s = s ∧ mismatchNotice s = s) ∧
    (∀ origin, haltItem station epoch (.peerOrigin origin) s = s) ∧
    haltItem station epoch .none s = s

/-- R15 to R20, R25 to R27, R55, R87: the neighbour slots and the conditions over the Peer Table. Group
completeness is R18's count with no PRESENT entry mismatched, wherever it stands (log 25). -/
def Obligations.PeerTableConditions : Prop :=
  ∀ s : State,
    (∀ e, e ∈ presentPeers s.peers ↔ e ∈ s.peers ∧ e.presence = .present) ∧
    (mismatchFree s = true ↔ ∀ e ∈ s.peers, e.presence = .present → e.digestMatch = true) ∧
    countSeated s.peers =
      (s.peers.filter
        (fun e =>
          decide
            (e.presence = .present ∧ (e.phase = .seated ∨ e.phase = .lift ∨ e.phase = .hold) ∧
              e.contact = true))).length ∧
    (setAtTarget s = true ↔
      s.phases.atTarget = true ∧ ∀ e ∈ s.peers, e.presence = .present → e.atTarget = true) ∧
    (setAtTarget s = true → s.pendant.blinkTimer = none →
      updateBlink s =
        { s with pendant := { s.pendant with lampMoving := true, blinkTimer := some 250 } }) ∧
    (setAtTarget s = false → s.pendant.blinkTimer ≠ none →
      updateBlink s =
        { s with
          pendant :=
            { s.pendant with lampMoving := s.phases.phase.isMotion, blinkTimer := none } }) ∧
    ((setAtTarget s = true ↔ s.pendant.blinkTimer ≠ none) → updateBlink s = s) ∧
    (s.store.active = none → groupComplete s = false ∧ seatingHolds s = false) ∧
    (∀ c, s.store.active = some c →
      (groupComplete s = true ↔
        (s.peers.filter
          (fun e => decide (e.presence = .present ∧ e.digestMatch = true))).length + 1 =
            c.expectedSize ∧
          ∀ e ∈ s.peers, e.presence = .present → e.digestMatch = true) ∧
      (seatingHolds s = true ↔
        c.expectedSize ≤ countSeated s.peers + 1 ∧ mismatchFree s = true) ∧
      slotPosition c .partner =
        some (c.fields.line.toNat, if c.fields.side = 0#16 then .right else .left) ∧
      (∀ p, c.lineEnabled p = true → p < c.fields.line.toNat →
        (∀ q, c.lineEnabled q = true → q < c.fields.line.toNat → q ≤ p) →
        slotPosition c .previousLeft = some (p, .left) ∧
        slotPosition c .previousRight = some (p, .right)) ∧
      ((∀ q, c.lineEnabled q = true → c.fields.line.toNat ≤ q) →
        slotPosition c .previousLeft = none ∧ slotPosition c .previousRight = none) ∧
      (∀ n, c.lineEnabled n = true → c.fields.line.toNat < n →
        (∀ q, c.lineEnabled q = true → c.fields.line.toNat < q → n ≤ q) →
        slotPosition c .nextLeft = some (n, .left) ∧
        slotPosition c .nextRight = some (n, .right)) ∧
      ((∀ q, c.lineEnabled q = true → q ≤ c.fields.line.toNat) →
        slotPosition c .nextLeft = none ∧ slotPosition c .nextRight = none) ∧
      (∀ slot,
        (slotPosition c slot = none → slotState c s.peers slot = .absent) ∧
        (∀ line side, slotPosition c slot = some (line, side) →
          ((∀ e ∈ s.peers, e.line = line → e.side ≠ side) →
            slotState c s.peers slot = .unfilled) ∧
          (∀ e ∈ s.peers, e.line = line → e.side = side →
            (∀ other ∈ s.peers, other.line = line → other.side = side → other = e) →
            (e.presence = .present → slotState c s.peers slot = .present e) ∧
            (e.presence = .lost → slotState c s.peers slot = .lost e)))) ∧
      (∀ phase,
        (neighbourHeights c s.peers phase allSlots = none ↔
          ∃ slot, slotState c s.peers slot = .unfilled ∨
            ∃ e, slotState c s.peers slot = .lost e) ∧
        (∀ heights, neighbourHeights c s.peers phase allSlots = some heights →
          ∀ h, h ∈ heights ↔
            ∃ slot e, slotState c s.peers slot = .present e ∧ e.height = h ∧
              (phase = .lower → e.phase = .lower ∨ e.phase = .hold ∨ e.phase = .seated))))

/-! ### Group commands -/

/-- R69, R70, R72, R78: RAISE taken in each phase. -/
def Obligations.RaiseTakenByPhase : Prop :=
  ∀ (s : State) (station : BitVec 6) (arg : Word) (rest : List RxFrame), s.held = false →
    s.line.rxQueue = .command station 1#4 arg :: rest → station ≠ 0#6 → station.toNat ≤ 48 →
    ∃ t, exec .raise s = .next t ∧
      t.phases.phase =
        (match s.phases.phase with
        | .ready => .seek
        | .seated => if seatingHolds s then .lift else .seated
        | .hold => .lift
        | .lower => .hold
        | .retract => .ready
        | .init => .init
        | .unconfigured => .unconfigured
        | .listen => .listen
        | .seek => .seek
        | .lift => .lift
        | .halted => .halted) ∧
      t.drive = driveAfter s.phases.phase t.phases.phase s.drive ∧
      (s.phases.phase = .init ∨ s.phases.phase = .unconfigured ∨ s.phases.phase = .listen ∨
          s.phases.phase = .halted →
        t.phases = s.phases) ∧
      (s.phases.phase ≠ .init → s.phases.phase ≠ .unconfigured → s.phases.phase ≠ .listen →
          s.phases.phase ≠ .halted →
        t.phases.target = some (min arg.toNat 24000) ∧ t.phases.atTarget = false ∧
        t.phases.atMark = false) ∧
      t.phases.seekStart =
        (if s.phases.phase = .ready then s.sensors.height else s.phases.seekStart) ∧
      t.phases.mark = s.phases.mark ∧ t.phases.epoch = s.phases.epoch ∧
      t.phases.causes = s.phases.causes ∧ t.phases.origin = s.phases.origin ∧
      t.store =
        { s.store with
          windowOpen := s.store.windowOpen && s.store.setupStrap
          windowTimer :=
            if s.store.windowOpen = true ∧ s.store.setupStrap = false then none
            else s.store.windowTimer } ∧
      { (s.afterHanding rest) with store := t.store }.onlyPhaseMoved t

/-- R69, R71, R72, R78: LOWER taken in each phase. -/
def Obligations.LowerTakenByPhase : Prop :=
  ∀ (s : State) (station : BitVec 6) (arg : Word) (rest : List RxFrame), s.held = false →
    s.line.rxQueue = .command station 2#4 arg :: rest → station ≠ 0#6 → station.toNat ≤ 48 →
    ∃ t, exec .lower s = .next t ∧
      t.phases.phase =
        (match s.phases.phase with
        | .ready => .retract
        | .seek => .ready
        | .seated => .lower
        | .lift => .hold
        | .hold => .lower
        | .lower => .lower
        | .retract => .retract
        | .init => .init
        | .unconfigured => .unconfigured
        | .listen => .listen
        | .halted => .halted) ∧
      t.drive = driveAfter s.phases.phase t.phases.phase s.drive ∧
      (s.phases.phase = .init ∨ s.phases.phase = .unconfigured ∨ s.phases.phase = .listen ∨
          s.phases.phase = .halted →
        t.phases = s.phases) ∧
      (s.phases.phase ≠ .init → s.phases.phase ≠ .unconfigured → s.phases.phase ≠ .listen →
          s.phases.phase ≠ .halted →
        t.phases =
          { s.phases with
            phase := t.phases.phase, target := some (min arg.toNat 24000)
            atTarget := false, atMark := false }) ∧
      t.store =
        { s.store with
          windowOpen := s.store.windowOpen && s.store.setupStrap
          windowTimer :=
            if s.store.windowOpen = true ∧ s.store.setupStrap = false then none
            else s.store.windowTimer } ∧
      { (s.afterHanding rest) with store := t.store }.onlyPhaseMoved t

/-- R69, R73, R76: HOLD and ESTOP taken in each phase; neither touches the setup window. -/
def Obligations.HoldAndEstopTakenByPhase : Prop :=
  ∀ (s : State) (station : BitVec 6) (arg : Word) (rest : List RxFrame), s.held = false →
    s.haltExact → station ≠ 0#6 → station.toNat ≤ 48 →
    (s.line.rxQueue = .command station 3#4 arg :: rest →
      ∃ t, exec .hold s = .next t ∧
        (s.phases.phase = .seek ∨ s.phases.phase = .retract →
          t.phases = { s.phases with phase := .ready, atTarget := false, atMark := false } ∧
          t.drive = driveAfter s.phases.phase .ready s.drive) ∧
        (s.phases.phase = .seated ∨ s.phases.phase = .lift ∨ s.phases.phase = .lower →
          t.phases = { s.phases with phase := .hold, atTarget := false, atMark := false } ∧
          t.drive = driveAfter s.phases.phase .hold s.drive) ∧
        (s.phases.phase = .init ∨ s.phases.phase = .unconfigured ∨ s.phases.phase = .listen ∨
            s.phases.phase = .ready ∨ s.phases.phase = .hold ∨ s.phases.phase = .halted →
          t = s.afterHanding rest) ∧
        (s.afterHanding rest).onlyPhaseMoved t) ∧
    (s.line.rxQueue = .command station 4#4 arg :: rest →
      ∃ t, exec .estop s = .next t ∧
        (s.phases.phase = .init ∨ s.phases.phase = .unconfigured ∨ s.phases.phase = .listen →
          t = s.afterHanding rest) ∧
        (s.phases.phase ≠ .init → s.phases.phase ≠ .unconfigured → s.phases.phase ≠ .listen →
          t.phases.phase = .halted ∧ t.phases.causes = s.causesWith .estopCommand ∧
          t.phases.origin = s.phases.origin ∧
          t.drive = driveAfter s.phases.phase .halted s.drive) ∧
        (s.afterHanding rest).onlyPhaseMoved t ∧ s.kept t)

/-- R68, R74, R75, R124, R154: ACK with and without own epoch, SET_MARK, CLEAR_MARK, a kind that
names no command, and a command whose station names no column. -/
def Obligations.AckMarksAndDiscards : Prop :=
  ∀ (s : State) (station : BitVec 6) (kind : BitVec 4) (arg : Word) (rest : List RxFrame),
    s.held = false → s.line.rxQueue = .command station kind arg :: rest →
    (station ≠ 0#6 → station.toNat ≤ 48 →
      (kind = 5#4 → arg.toNat = s.phases.epoch.toNat →
        exec .ack s = .next (acknowledge (s.afterHanding rest))) ∧
      (kind = 5#4 → arg.toNat ≠ s.phases.epoch.toNat →
        exec .ack s = .next (s.afterHanding rest)) ∧
      (kind = 6#4 →
        exec .setMark s =
          .next
            (if s.phases.phase = .hold ∧ s.sensors.contact = true then
              { (s.afterHanding rest) with phases := { s.phases with mark := s.sensors.height } }
            else s.afterHanding rest)) ∧
      (kind = 7#4 →
        exec .clearMark s =
          .next
            (if (s.phases.phase = .ready ∨ s.phases.phase = .hold) ∧ s.phases.mark ≠ none then
              { (s.afterHanding rest) with
                phases := { s.phases with mark := none, atMark := false } }
            else s.afterHanding rest))) ∧
    (kind = 0#4 ∨ 8 ≤ kind.toNat →
      exec .commandKindUndefined s = .next (s.afterHanding rest)) ∧
    (station = 0#6 ∨ 48 < station.toNat →
      (kind = 1#4 → exec .raise s = .next (s.afterHanding rest)) ∧
      (kind = 2#4 → exec .lower s = .next (s.afterHanding rest)) ∧
      (kind = 3#4 → exec .hold s = .next (s.afterHanding rest)) ∧
      (kind = 4#4 → exec .estop s = .next (s.afterHanding rest)) ∧
      (kind = 5#4 → exec .ack s = .next (s.afterHanding rest)) ∧
      (kind = 6#4 → exec .setMark s = .next (s.afterHanding rest)) ∧
      (kind = 7#4 → exec .clearMark s = .next (s.afterHanding rest)))

/-- R125, R126, R66, R136, R143, R161: an acknowledgement taken. Completeness is read as log 25 says. -/
def Obligations.AcknowledgementRemovesCauses : Prop :=
  ∀ (s : State) (c : ConfigValues), s.store.active = some c →
    (acknowledge s).phases.epoch = s.phases.epoch + 1#4 ∧
    (acknowledge s).phases.origin = none ∧
    (∀ cause, cause ∈ (acknowledge s).phases.causes ↔
      cause ∈ s.phases.causes ∧ s.causePersists cause) ∧
    (acknowledge s).phases.causes.Sublist s.phases.causes ∧
    (acknowledge s).phases.phase =
      (if s.phases.phase = .halted ∧ (acknowledge s).phases.causes = [] then
        if groupComplete s then (if s.sensors.contact then .hold else .ready) else .listen
      else s.phases.phase) ∧
    (acknowledge s).line.slot = true ∧ (acknowledge s).line.statusTimer = 20 ∧
    (∀ i : Fin 8, (acknowledge s).guards.pending.getLsbD i.val =
      (s.guards.pending.getLsbD i.val &&
        !decide (guardCause i ∈ s.phases.causes ∧ guardCause i ∉ (acknowledge s).phases.causes))) ∧
    (.drift ∈ s.phases.causes → (acknowledge s).checks.driftRef = s.sensors.height) ∧
    (.lineFault ∈ s.phases.causes →
      (acknowledge s).line.errors = 0 ∧ (acknowledge s).line.tx ≠ .disabled) ∧
    (acknowledge s).phases.target = s.phases.target ∧
    (acknowledge s).phases.mark = s.phases.mark ∧
    (acknowledge s).guards.levels = s.guards.levels ∧ (acknowledge s).peers = s.peers ∧
    (acknowledge s).sensors = s.sensors ∧ (acknowledge s).store = s.store ∧
    (acknowledge s).line.queue = s.line.queue ∧ (acknowledge s).line.rxQueue = s.line.rxQueue

/-! ### Service frames -/

/-- R174, R178: the first of the three tests that fails decides the result, and nothing else
changes. -/
def Obligations.ServiceTestsInOrder : Prop :=
  ∀ (s : State) (inputs : SampledInputs) (frame : RxFrame) (rest : List RxFrame) (c : Instr),
    s.held = false → s.line.rxQueue = frame :: rest → serviceCommand inputs frame = some c →
    (s.store.windowOpen = false →
      exec c s =
        .next
          { (s.afterHanding rest) with store := { s.store with result := .refusedClosed } }) ∧
    (∀ v, s.store.windowOpen = true → s.store.setupStrap = false → s.store.active = some v →
      v.fields.protect ≠ 0#16 →
      exec c s =
        .next
          { (s.afterHanding rest) with store := { s.store with result := .refusedProtected } }) ∧
    (s.store.windowOpen = true →
      (s.store.setupStrap = true ∨ ∀ v, s.store.active = some v → v.fields.protect = 0#16) →
      s.store.commit ≠ .idle →
      exec c s =
        .next { (s.afterHanding rest) with store := { s.store with result := .busy } })

/-- R175: a CONFIG_WRITE past the three tests, TOL_REWIND among them. -/
def Obligations.ConfigWriteStagesField : Prop :=
  ∀ (s : State) (id : BitVec 8) (value : Word) (rest : List RxFrame), s.held = false →
    s.serviceOpen → s.line.rxQueue = .configWrite id value :: rest →
    (id = 21#8 →
      exec .tolRewind s =
        .next
          { (s.afterHanding rest) with
            store := { s.store with tolPointer := 0, result := .accepted } }) ∧
    (id = 0#8 ∨ 22 ≤ id.toNat →
      exec .configWrite s =
        .next
          { (s.afterHanding rest) with store := { s.store with result := .refusedRange } }) ∧
    (∀ range, id ≠ 0#8 → fieldRanges.toList[id.toNat - 1]? = some range →
      (value.toNat < range.1 ∨ range.2 < value.toNat →
        exec .configWrite s =
          .next
            { (s.afterHanding rest) with store := { s.store with result := .refusedRange } }) ∧
      (range.1 ≤ value.toNat → value.toNat ≤ range.2 →
        ∃ fields : ConfigFields (Option Word),
          exec .configWrite s =
            .next
              { (s.afterHanding rest) with
                store :=
                  { s.store with
                    staging := { s.store.staging with fields := fields }
                    result := .accepted } } ∧
          ∀ k : Nat, k < 20 →
            fields.toList[k]? =
              (if k + 1 = id.toNat then
                some (some (if id = 16#8 then value ||| 3#16 else value))
              else s.store.staging.fields.toList[k]?)))

/-- R176: a TOL_WRITE past the three tests. -/
def Obligations.TolWriteFillsSlot : Prop :=
  ∀ (s : State) (value : Word) (rest : List RxFrame) (range : Nat × Nat), s.held = false →
    s.serviceOpen → s.line.rxQueue = .tolWrite value :: rest →
    toleranceRanges.toList[s.store.tolPointer]? = some range →
    (value.toNat < range.1 ∨ range.2 < value.toNat →
      exec .tolWrite s =
        .next
          { (s.afterHanding rest) with store := { s.store with result := .refusedRange } }) ∧
    (range.1 ≤ value.toNat → value.toNat ≤ range.2 →
      ∃ tol : Tolerances (Option Word),
        exec .tolWrite s =
          .next
            { (s.afterHanding rest) with
              store :=
                { s.store with
                  staging := { s.store.staging with tol := tol }
                  passComplete :=
                    if s.store.tolPointer = 5 then true
                    else if s.store.tolPointer = 0 then false
                    else s.store.passComplete
                  tolPointer := if s.store.tolPointer = 5 then 0 else s.store.tolPointer + 1
                  result := .accepted } } ∧
        ∀ k : Nat, k < 6 →
          tol.toList[k]? =
            (if k = s.store.tolPointer then some (some value)
            else s.store.staging.tol.toList[k]?))

/-- R179, R182: a COMMIT past the three tests starts the write only of a whole, consistent staging
copy; CLOSE_SETUP closes the window whatever else stands. -/
def Obligations.CommitAndCloseSetup : Prop :=
  ∀ (s : State) (rest : List RxFrame), s.held = false →
    (s.line.rxQueue = .commit :: rest → s.serviceOpen →
      (∀ v : ConfigValues,
        s.store.staging = { fields := v.fields.map some, tol := v.tol.map some } →
        s.store.passComplete = true → v.fields.vCreep.toNat ≤ v.fields.vNom.toNat →
        v.fields.vNom.toNat ≤ v.fields.vDriveMax.toNat →
        v.tol.aLocal.toNat ≤ v.tol.aGroup.toNat →
        v.tol.wContact.toNat < v.tol.wCapacity.toNat →
        v.mask ≠ 0#24 → v.mask.getLsbD v.fields.line.toNat = true →
        exec .commit s =
          .next
            { (s.afterHanding rest) with
              store :=
                { s.store with
                  commit := .inFlight v, writeTimer := some 40, tolPointer := 0
                  result := .accepted } }) ∧
      ((none ∈ s.store.staging.fields.toList ∨ none ∈ s.store.staging.tol.toList ∨
          s.store.passComplete = false ∨
          ∃ v : ConfigValues,
            s.store.staging = { fields := v.fields.map some, tol := v.tol.map some } ∧
            (v.fields.vNom.toNat < v.fields.vCreep.toNat ∨
              v.fields.vDriveMax.toNat < v.fields.vNom.toNat ∨
              v.tol.aGroup.toNat < v.tol.aLocal.toNat ∨
              v.tol.wCapacity.toNat ≤ v.tol.wContact.toNat ∨
              v.mask.getLsbD v.fields.line.toNat = false)) →
        exec .commit s =
          .next
            { (s.afterHanding rest) with
              store := { s.store with result := .refusedInconsistent } })) ∧
    (s.line.rxQueue = .closeSetup :: rest →
      exec .closeSetup s =
        .next
          { (s.afterHanding rest) with
            store :=
              { s.store with
                windowOpen := false
                windowTimer := if s.store.windowOpen then none else s.store.windowTimer } })

/-! ### Encoding -/

/-- R151 to R154, R163: every COMMAND and STATUS frame the transmitter builds is good at a receiver
and gives back every field it was built from. -/
def Obligations.FramesRoundTrip : Prop :=
  (∀ (station : BitVec 6) (group : BitVec 4) (kind : CommandKind) (arg : Word),
    goodFrame (commandFrameBytes station group kind arg) false =
      some
        { priority := if kind = .estop then 0#2 else 1#2
          station := station, group := group, body := .command kind.code arg }) ∧
  (∀ (station : BitVec 6) (group : BitVec 4) (fields : StatusFields),
    goodFrame (statusFrameBytes station group fields) false =
      some { priority := 2#2, station := station, group := group, body := .status fields })

/-- R151, R152: a frame is its two arbitration bytes, its payload and the check bytes over them. R163:
the receiver's checks, each at every frame it refuses; a frame that passes them all gives its priority,
station, group and body. The CRC is read as log 14 says. -/
def Obligations.FrameChecksInOrder : Prop :=
  (∀ bytes framingError, framingError = true ∨ bytes.length < 5 →
    goodFrame bytes framingError = none) ∧
  (∀ (priority : BitVec 2) (station : BitVec 6) (code group : BitVec 4) (payload : List Byte)
      (check : Word) (covered : List Byte), payload ≠ [] →
    covered = (priority ++ station) :: (code ++ group) :: payload →
    buildFrame priority station code group payload =
      covered ++ [(crc16 covered).extractLsb' 8 8, (crc16 covered).extractLsb' 0 8] ∧
    (check ≠ crc16 covered →
      goodFrame (covered ++ [check.extractLsb' 8 8, check.extractLsb' 0 8]) false = none) ∧
    (code ∉ [1#4, 2#4, 8#4, 9#4, 10#4, 11#4, 12#4] →
      goodFrame (buildFrame priority station code group payload) false = none) ∧
    (∀ body : FrameBody, code = body.row.1 →
      (payload.length ≠ body.row.2.1 ∨ priority ∉ body.row.2.2 →
        goodFrame (buildFrame priority station code group payload) false = none) ∧
      (priority ∈ body.row.2.2 → body.laidOut payload →
        goodFrame (buildFrame priority station code group payload) false =
          some { priority := priority, station := station, group := group, body := body })))

/-! ### Invariants -/

/-- State.reset meets every invariant of Safety.lean. -/
def Obligations.ResetStateMeetsInvariants : Prop :=
  State.reset.driveSafe ∧ State.reset.haltExact ∧ State.reset.configSound ∧
  State.reset.tableSound ∧ State.reset.bounded ∧ State.reset.latchesAgree ∧
  State.reset.lampsSound ∧ State.reset.arrivalFlagsSound ∧ State.reset.storeTimersSound ∧
  State.reset.txSound

/-- R107, R110: no step lets the column move, or its brake off, outside a motion phase, or puts out
duty outside RUNNING. -/
def Obligations.StepKeepsDriveSafe : Prop :=
  ∀ s t : State, s.driveSafe → step s = .next t → t.driveSafe

/-- R64, R119: every step leaves the phase HALTED exactly while a cause or an origin is latched. -/
def Obligations.StepKeepsHaltExact : Prop :=
  ∀ s t : State, s.haltExact → step s = .next t → t.haltExact

/-- R1, R5, R12, R13, R171: every step keeps the Peer Table sorted, free of clashes and of own
station, and the active configuration sound. -/
def Obligations.StepKeepsTableSound : Prop :=
  ∀ s t : State, s.tableSound → s.configSound → step s = .next t → t.tableSound ∧ t.configSound

/-- R42, R90, R96, R101, R132, R160, R162, R166, R176, R183: every step keeps every counter and queue
within its bound; that at most two resets are applied at once is log 28. -/
def Obligations.StepKeepsBounds : Prop :=
  ∀ s t : State, s.bounded → s.configSound → s.tableSound → step s = .next t → t.bounded

/-- R141: every step keeps the guard latches and the latched guard causes in agreement. -/
def Obligations.StepKeepsLatchesAgreeing : Prop :=
  ∀ s t : State, s.latchesAgree → s.haltExact → step s = .next t → t.latchesAgree

/-- R43, R86, R87: every step leaves the lamps showing the phase, blinking exactly at the set's
target, and AT_TARGET and AT_MARK clear outside HOLD. -/
def Obligations.StepKeepsLampsSound : Prop :=
  ∀ s t : State, s.lampsSound → s.arrivalFlagsSound → step s = .next t →
    t.lampsSound ∧ t.arrivalFlagsSound

/-- R156, R157, R159, R177, R179: every step keeps the transmitter in agreement with its queue, and
the Store's timers with its window and its commit state. -/
def Obligations.StepKeepsTransmitterSound : Prop :=
  ∀ s t : State, s.txSound → s.storeTimersSound → step s = .next t →
    t.txSound ∧ t.storeTimersSound
end

