-- ==== Sys2Proof/Laws/State.lean ====
section
/-!
SUPPORT. One lemma per block of State per setter: what each setter writes, and that it leaves every
other block alone.
-/

namespace Sys2Proof.Machine

@[simp] theorem State.setPeers_peers (s : State) (x : List PeerEntry) :
    (s.setPeers x).peers = x := rfl
@[simp] theorem State.setPeers_scanTimer (s : State) (x : List PeerEntry) :
    (s.setPeers x).scanTimer = s.scanTimer := rfl
@[simp] theorem State.setPeers_phases (s : State) (x : List PeerEntry) :
    (s.setPeers x).phases = s.phases := rfl
@[simp] theorem State.setPeers_follower (s : State) (x : List PeerEntry) :
    (s.setPeers x).follower = s.follower := rfl
@[simp] theorem State.setPeers_checks (s : State) (x : List PeerEntry) :
    (s.setPeers x).checks = s.checks := rfl
@[simp] theorem State.setPeers_sensors (s : State) (x : List PeerEntry) :
    (s.setPeers x).sensors = s.sensors := rfl
@[simp] theorem State.setPeers_drive (s : State) (x : List PeerEntry) :
    (s.setPeers x).drive = s.drive := rfl
@[simp] theorem State.setPeers_guards (s : State) (x : List PeerEntry) :
    (s.setPeers x).guards = s.guards := rfl
@[simp] theorem State.setPeers_pendant (s : State) (x : List PeerEntry) :
    (s.setPeers x).pendant = s.pendant := rfl
@[simp] theorem State.setPeers_line (s : State) (x : List PeerEntry) :
    (s.setPeers x).line = s.line := rfl
@[simp] theorem State.setPeers_store (s : State) (x : List PeerEntry) :
    (s.setPeers x).store = s.store := rfl
@[simp] theorem State.setPeers_resetsApplied (s : State) (x : List PeerEntry) :
    (s.setPeers x).resetsApplied = s.resetsApplied := rfl
@[simp] theorem State.setPeers_held (s : State) (x : List PeerEntry) :
    (s.setPeers x).held = s.held := rfl
@[simp] theorem State.setPeers_freeCount (s : State) (x : List PeerEntry) :
    (s.setPeers x).freeCount = s.freeCount := rfl
@[simp] theorem State.setPeers_pending (s : State) (x : List PeerEntry) :
    (s.setPeers x).pending = s.pending := rfl
@[simp] theorem State.setScanTimer_peers (s : State) (x : Nat) :
    (s.setScanTimer x).peers = s.peers := rfl
@[simp] theorem State.setScanTimer_scanTimer (s : State) (x : Nat) :
    (s.setScanTimer x).scanTimer = x := rfl
@[simp] theorem State.setScanTimer_phases (s : State) (x : Nat) :
    (s.setScanTimer x).phases = s.phases := rfl
@[simp] theorem State.setScanTimer_follower (s : State) (x : Nat) :
    (s.setScanTimer x).follower = s.follower := rfl
@[simp] theorem State.setScanTimer_checks (s : State) (x : Nat) :
    (s.setScanTimer x).checks = s.checks := rfl
@[simp] theorem State.setScanTimer_sensors (s : State) (x : Nat) :
    (s.setScanTimer x).sensors = s.sensors := rfl
@[simp] theorem State.setScanTimer_drive (s : State) (x : Nat) :
    (s.setScanTimer x).drive = s.drive := rfl
@[simp] theorem State.setScanTimer_guards (s : State) (x : Nat) :
    (s.setScanTimer x).guards = s.guards := rfl
@[simp] theorem State.setScanTimer_pendant (s : State) (x : Nat) :
    (s.setScanTimer x).pendant = s.pendant := rfl
@[simp] theorem State.setScanTimer_line (s : State) (x : Nat) :
    (s.setScanTimer x).line = s.line := rfl
@[simp] theorem State.setScanTimer_store (s : State) (x : Nat) :
    (s.setScanTimer x).store = s.store := rfl
@[simp] theorem State.setScanTimer_resetsApplied (s : State) (x : Nat) :
    (s.setScanTimer x).resetsApplied = s.resetsApplied := rfl
@[simp] theorem State.setScanTimer_held (s : State) (x : Nat) :
    (s.setScanTimer x).held = s.held := rfl
@[simp] theorem State.setScanTimer_freeCount (s : State) (x : Nat) :
    (s.setScanTimer x).freeCount = s.freeCount := rfl
@[simp] theorem State.setScanTimer_pending (s : State) (x : Nat) :
    (s.setScanTimer x).pending = s.pending := rfl
@[simp] theorem State.setPhases_peers (s : State) (x : PhaseBlock) :
    (s.setPhases x).peers = s.peers := rfl
@[simp] theorem State.setPhases_scanTimer (s : State) (x : PhaseBlock) :
    (s.setPhases x).scanTimer = s.scanTimer := rfl
@[simp] theorem State.setPhases_phases (s : State) (x : PhaseBlock) :
    (s.setPhases x).phases = x := rfl
@[simp] theorem State.setPhases_follower (s : State) (x : PhaseBlock) :
    (s.setPhases x).follower = s.follower := rfl
@[simp] theorem State.setPhases_checks (s : State) (x : PhaseBlock) :
    (s.setPhases x).checks = s.checks := rfl
@[simp] theorem State.setPhases_sensors (s : State) (x : PhaseBlock) :
    (s.setPhases x).sensors = s.sensors := rfl
@[simp] theorem State.setPhases_drive (s : State) (x : PhaseBlock) :
    (s.setPhases x).drive = s.drive := rfl
@[simp] theorem State.setPhases_guards (s : State) (x : PhaseBlock) :
    (s.setPhases x).guards = s.guards := rfl
@[simp] theorem State.setPhases_pendant (s : State) (x : PhaseBlock) :
    (s.setPhases x).pendant = s.pendant := rfl
@[simp] theorem State.setPhases_line (s : State) (x : PhaseBlock) :
    (s.setPhases x).line = s.line := rfl
@[simp] theorem State.setPhases_store (s : State) (x : PhaseBlock) :
    (s.setPhases x).store = s.store := rfl
@[simp] theorem State.setPhases_resetsApplied (s : State) (x : PhaseBlock) :
    (s.setPhases x).resetsApplied = s.resetsApplied := rfl
@[simp] theorem State.setPhases_held (s : State) (x : PhaseBlock) :
    (s.setPhases x).held = s.held := rfl
@[simp] theorem State.setPhases_freeCount (s : State) (x : PhaseBlock) :
    (s.setPhases x).freeCount = s.freeCount := rfl
@[simp] theorem State.setPhases_pending (s : State) (x : PhaseBlock) :
    (s.setPhases x).pending = s.pending := rfl
@[simp] theorem State.setFollower_peers (s : State) (x : FollowerBlock) :
    (s.setFollower x).peers = s.peers := rfl
@[simp] theorem State.setFollower_scanTimer (s : State) (x : FollowerBlock) :
    (s.setFollower x).scanTimer = s.scanTimer := rfl
@[simp] theorem State.setFollower_phases (s : State) (x : FollowerBlock) :
    (s.setFollower x).phases = s.phases := rfl
@[simp] theorem State.setFollower_follower (s : State) (x : FollowerBlock) :
    (s.setFollower x).follower = x := rfl
@[simp] theorem State.setFollower_checks (s : State) (x : FollowerBlock) :
    (s.setFollower x).checks = s.checks := rfl
@[simp] theorem State.setFollower_sensors (s : State) (x : FollowerBlock) :
    (s.setFollower x).sensors = s.sensors := rfl
@[simp] theorem State.setFollower_drive (s : State) (x : FollowerBlock) :
    (s.setFollower x).drive = s.drive := rfl
@[simp] theorem State.setFollower_guards (s : State) (x : FollowerBlock) :
    (s.setFollower x).guards = s.guards := rfl
@[simp] theorem State.setFollower_pendant (s : State) (x : FollowerBlock) :
    (s.setFollower x).pendant = s.pendant := rfl
@[simp] theorem State.setFollower_line (s : State) (x : FollowerBlock) :
    (s.setFollower x).line = s.line := rfl
@[simp] theorem State.setFollower_store (s : State) (x : FollowerBlock) :
    (s.setFollower x).store = s.store := rfl
@[simp] theorem State.setFollower_resetsApplied (s : State) (x : FollowerBlock) :
    (s.setFollower x).resetsApplied = s.resetsApplied := rfl
@[simp] theorem State.setFollower_held (s : State) (x : FollowerBlock) :
    (s.setFollower x).held = s.held := rfl
@[simp] theorem State.setFollower_freeCount (s : State) (x : FollowerBlock) :
    (s.setFollower x).freeCount = s.freeCount := rfl
@[simp] theorem State.setFollower_pending (s : State) (x : FollowerBlock) :
    (s.setFollower x).pending = s.pending := rfl
@[simp] theorem State.setChecks_peers (s : State) (x : CheckBlock) :
    (s.setChecks x).peers = s.peers := rfl
@[simp] theorem State.setChecks_scanTimer (s : State) (x : CheckBlock) :
    (s.setChecks x).scanTimer = s.scanTimer := rfl
@[simp] theorem State.setChecks_phases (s : State) (x : CheckBlock) :
    (s.setChecks x).phases = s.phases := rfl
@[simp] theorem State.setChecks_follower (s : State) (x : CheckBlock) :
    (s.setChecks x).follower = s.follower := rfl
@[simp] theorem State.setChecks_checks (s : State) (x : CheckBlock) :
    (s.setChecks x).checks = x := rfl
@[simp] theorem State.setChecks_sensors (s : State) (x : CheckBlock) :
    (s.setChecks x).sensors = s.sensors := rfl
@[simp] theorem State.setChecks_drive (s : State) (x : CheckBlock) :
    (s.setChecks x).drive = s.drive := rfl
@[simp] theorem State.setChecks_guards (s : State) (x : CheckBlock) :
    (s.setChecks x).guards = s.guards := rfl
@[simp] theorem State.setChecks_pendant (s : State) (x : CheckBlock) :
    (s.setChecks x).pendant = s.pendant := rfl
@[simp] theorem State.setChecks_line (s : State) (x : CheckBlock) :
    (s.setChecks x).line = s.line := rfl
@[simp] theorem State.setChecks_store (s : State) (x : CheckBlock) :
    (s.setChecks x).store = s.store := rfl
@[simp] theorem State.setChecks_resetsApplied (s : State) (x : CheckBlock) :
    (s.setChecks x).resetsApplied = s.resetsApplied := rfl
@[simp] theorem State.setChecks_held (s : State) (x : CheckBlock) :
    (s.setChecks x).held = s.held := rfl
@[simp] theorem State.setChecks_freeCount (s : State) (x : CheckBlock) :
    (s.setChecks x).freeCount = s.freeCount := rfl
@[simp] theorem State.setChecks_pending (s : State) (x : CheckBlock) :
    (s.setChecks x).pending = s.pending := rfl
@[simp] theorem State.setSensors_peers (s : State) (x : SensorBlock) :
    (s.setSensors x).peers = s.peers := rfl
@[simp] theorem State.setSensors_scanTimer (s : State) (x : SensorBlock) :
    (s.setSensors x).scanTimer = s.scanTimer := rfl
@[simp] theorem State.setSensors_phases (s : State) (x : SensorBlock) :
    (s.setSensors x).phases = s.phases := rfl
@[simp] theorem State.setSensors_follower (s : State) (x : SensorBlock) :
    (s.setSensors x).follower = s.follower := rfl
@[simp] theorem State.setSensors_checks (s : State) (x : SensorBlock) :
    (s.setSensors x).checks = s.checks := rfl
@[simp] theorem State.setSensors_sensors (s : State) (x : SensorBlock) :
    (s.setSensors x).sensors = x := rfl
@[simp] theorem State.setSensors_drive (s : State) (x : SensorBlock) :
    (s.setSensors x).drive = s.drive := rfl
@[simp] theorem State.setSensors_guards (s : State) (x : SensorBlock) :
    (s.setSensors x).guards = s.guards := rfl
@[simp] theorem State.setSensors_pendant (s : State) (x : SensorBlock) :
    (s.setSensors x).pendant = s.pendant := rfl
@[simp] theorem State.setSensors_line (s : State) (x : SensorBlock) :
    (s.setSensors x).line = s.line := rfl
@[simp] theorem State.setSensors_store (s : State) (x : SensorBlock) :
    (s.setSensors x).store = s.store := rfl
@[simp] theorem State.setSensors_resetsApplied (s : State) (x : SensorBlock) :
    (s.setSensors x).resetsApplied = s.resetsApplied := rfl
@[simp] theorem State.setSensors_held (s : State) (x : SensorBlock) :
    (s.setSensors x).held = s.held := rfl
@[simp] theorem State.setSensors_freeCount (s : State) (x : SensorBlock) :
    (s.setSensors x).freeCount = s.freeCount := rfl
@[simp] theorem State.setSensors_pending (s : State) (x : SensorBlock) :
    (s.setSensors x).pending = s.pending := rfl
@[simp] theorem State.setDrive_peers (s : State) (x : DriveBlock) :
    (s.setDrive x).peers = s.peers := rfl
@[simp] theorem State.setDrive_scanTimer (s : State) (x : DriveBlock) :
    (s.setDrive x).scanTimer = s.scanTimer := rfl
@[simp] theorem State.setDrive_phases (s : State) (x : DriveBlock) :
    (s.setDrive x).phases = s.phases := rfl
@[simp] theorem State.setDrive_follower (s : State) (x : DriveBlock) :
    (s.setDrive x).follower = s.follower := rfl
@[simp] theorem State.setDrive_checks (s : State) (x : DriveBlock) :
    (s.setDrive x).checks = s.checks := rfl
@[simp] theorem State.setDrive_sensors (s : State) (x : DriveBlock) :
    (s.setDrive x).sensors = s.sensors := rfl
@[simp] theorem State.setDrive_drive (s : State) (x : DriveBlock) :
    (s.setDrive x).drive = x := rfl
@[simp] theorem State.setDrive_guards (s : State) (x : DriveBlock) :
    (s.setDrive x).guards = s.guards := rfl
@[simp] theorem State.setDrive_pendant (s : State) (x : DriveBlock) :
    (s.setDrive x).pendant = s.pendant := rfl
@[simp] theorem State.setDrive_line (s : State) (x : DriveBlock) :
    (s.setDrive x).line = s.line := rfl
@[simp] theorem State.setDrive_store (s : State) (x : DriveBlock) :
    (s.setDrive x).store = s.store := rfl
@[simp] theorem State.setDrive_resetsApplied (s : State) (x : DriveBlock) :
    (s.setDrive x).resetsApplied = s.resetsApplied := rfl
@[simp] theorem State.setDrive_held (s : State) (x : DriveBlock) :
    (s.setDrive x).held = s.held := rfl
@[simp] theorem State.setDrive_freeCount (s : State) (x : DriveBlock) :
    (s.setDrive x).freeCount = s.freeCount := rfl
@[simp] theorem State.setDrive_pending (s : State) (x : DriveBlock) :
    (s.setDrive x).pending = s.pending := rfl
@[simp] theorem State.setGuards_peers (s : State) (x : GuardBlock) :
    (s.setGuards x).peers = s.peers := rfl
@[simp] theorem State.setGuards_scanTimer (s : State) (x : GuardBlock) :
    (s.setGuards x).scanTimer = s.scanTimer := rfl
@[simp] theorem State.setGuards_phases (s : State) (x : GuardBlock) :
    (s.setGuards x).phases = s.phases := rfl
@[simp] theorem State.setGuards_follower (s : State) (x : GuardBlock) :
    (s.setGuards x).follower = s.follower := rfl
@[simp] theorem State.setGuards_checks (s : State) (x : GuardBlock) :
    (s.setGuards x).checks = s.checks := rfl
@[simp] theorem State.setGuards_sensors (s : State) (x : GuardBlock) :
    (s.setGuards x).sensors = s.sensors := rfl
@[simp] theorem State.setGuards_drive (s : State) (x : GuardBlock) :
    (s.setGuards x).drive = s.drive := rfl
@[simp] theorem State.setGuards_guards (s : State) (x : GuardBlock) :
    (s.setGuards x).guards = x := rfl
@[simp] theorem State.setGuards_pendant (s : State) (x : GuardBlock) :
    (s.setGuards x).pendant = s.pendant := rfl
@[simp] theorem State.setGuards_line (s : State) (x : GuardBlock) :
    (s.setGuards x).line = s.line := rfl
@[simp] theorem State.setGuards_store (s : State) (x : GuardBlock) :
    (s.setGuards x).store = s.store := rfl
@[simp] theorem State.setGuards_resetsApplied (s : State) (x : GuardBlock) :
    (s.setGuards x).resetsApplied = s.resetsApplied := rfl
@[simp] theorem State.setGuards_held (s : State) (x : GuardBlock) :
    (s.setGuards x).held = s.held := rfl
@[simp] theorem State.setGuards_freeCount (s : State) (x : GuardBlock) :
    (s.setGuards x).freeCount = s.freeCount := rfl
@[simp] theorem State.setGuards_pending (s : State) (x : GuardBlock) :
    (s.setGuards x).pending = s.pending := rfl
@[simp] theorem State.setPendant_peers (s : State) (x : PendantBlock) :
    (s.setPendant x).peers = s.peers := rfl
@[simp] theorem State.setPendant_scanTimer (s : State) (x : PendantBlock) :
    (s.setPendant x).scanTimer = s.scanTimer := rfl
@[simp] theorem State.setPendant_phases (s : State) (x : PendantBlock) :
    (s.setPendant x).phases = s.phases := rfl
@[simp] theorem State.setPendant_follower (s : State) (x : PendantBlock) :
    (s.setPendant x).follower = s.follower := rfl
@[simp] theorem State.setPendant_checks (s : State) (x : PendantBlock) :
    (s.setPendant x).checks = s.checks := rfl
@[simp] theorem State.setPendant_sensors (s : State) (x : PendantBlock) :
    (s.setPendant x).sensors = s.sensors := rfl
@[simp] theorem State.setPendant_drive (s : State) (x : PendantBlock) :
    (s.setPendant x).drive = s.drive := rfl
@[simp] theorem State.setPendant_guards (s : State) (x : PendantBlock) :
    (s.setPendant x).guards = s.guards := rfl
@[simp] theorem State.setPendant_pendant (s : State) (x : PendantBlock) :
    (s.setPendant x).pendant = x := rfl
@[simp] theorem State.setPendant_line (s : State) (x : PendantBlock) :
    (s.setPendant x).line = s.line := rfl
@[simp] theorem State.setPendant_store (s : State) (x : PendantBlock) :
    (s.setPendant x).store = s.store := rfl
@[simp] theorem State.setPendant_resetsApplied (s : State) (x : PendantBlock) :
    (s.setPendant x).resetsApplied = s.resetsApplied := rfl
@[simp] theorem State.setPendant_held (s : State) (x : PendantBlock) :
    (s.setPendant x).held = s.held := rfl
@[simp] theorem State.setPendant_freeCount (s : State) (x : PendantBlock) :
    (s.setPendant x).freeCount = s.freeCount := rfl
@[simp] theorem State.setPendant_pending (s : State) (x : PendantBlock) :
    (s.setPendant x).pending = s.pending := rfl
@[simp] theorem State.setLine_peers (s : State) (x : LineBlock) :
    (s.setLine x).peers = s.peers := rfl
@[simp] theorem State.setLine_scanTimer (s : State) (x : LineBlock) :
    (s.setLine x).scanTimer = s.scanTimer := rfl
@[simp] theorem State.setLine_phases (s : State) (x : LineBlock) :
    (s.setLine x).phases = s.phases := rfl
@[simp] theorem State.setLine_follower (s : State) (x : LineBlock) :
    (s.setLine x).follower = s.follower := rfl
@[simp] theorem State.setLine_checks (s : State) (x : LineBlock) :
    (s.setLine x).checks = s.checks := rfl
@[simp] theorem State.setLine_sensors (s : State) (x : LineBlock) :
    (s.setLine x).sensors = s.sensors := rfl
@[simp] theorem State.setLine_drive (s : State) (x : LineBlock) :
    (s.setLine x).drive = s.drive := rfl
@[simp] theorem State.setLine_guards (s : State) (x : LineBlock) :
    (s.setLine x).guards = s.guards := rfl
@[simp] theorem State.setLine_pendant (s : State) (x : LineBlock) :
    (s.setLine x).pendant = s.pendant := rfl
@[simp] theorem State.setLine_line (s : State) (x : LineBlock) :
    (s.setLine x).line = x := rfl
@[simp] theorem State.setLine_store (s : State) (x : LineBlock) :
    (s.setLine x).store = s.store := rfl
@[simp] theorem State.setLine_resetsApplied (s : State) (x : LineBlock) :
    (s.setLine x).resetsApplied = s.resetsApplied := rfl
@[simp] theorem State.setLine_held (s : State) (x : LineBlock) :
    (s.setLine x).held = s.held := rfl
@[simp] theorem State.setLine_freeCount (s : State) (x : LineBlock) :
    (s.setLine x).freeCount = s.freeCount := rfl
@[simp] theorem State.setLine_pending (s : State) (x : LineBlock) :
    (s.setLine x).pending = s.pending := rfl
@[simp] theorem State.setStore_peers (s : State) (x : StoreBlock) :
    (s.setStore x).peers = s.peers := rfl
@[simp] theorem State.setStore_scanTimer (s : State) (x : StoreBlock) :
    (s.setStore x).scanTimer = s.scanTimer := rfl
@[simp] theorem State.setStore_phases (s : State) (x : StoreBlock) :
    (s.setStore x).phases = s.phases := rfl
@[simp] theorem State.setStore_follower (s : State) (x : StoreBlock) :
    (s.setStore x).follower = s.follower := rfl
@[simp] theorem State.setStore_checks (s : State) (x : StoreBlock) :
    (s.setStore x).checks = s.checks := rfl
@[simp] theorem State.setStore_sensors (s : State) (x : StoreBlock) :
    (s.setStore x).sensors = s.sensors := rfl
@[simp] theorem State.setStore_drive (s : State) (x : StoreBlock) :
    (s.setStore x).drive = s.drive := rfl
@[simp] theorem State.setStore_guards (s : State) (x : StoreBlock) :
    (s.setStore x).guards = s.guards := rfl
@[simp] theorem State.setStore_pendant (s : State) (x : StoreBlock) :
    (s.setStore x).pendant = s.pendant := rfl
@[simp] theorem State.setStore_line (s : State) (x : StoreBlock) :
    (s.setStore x).line = s.line := rfl
@[simp] theorem State.setStore_store (s : State) (x : StoreBlock) :
    (s.setStore x).store = x := rfl
@[simp] theorem State.setStore_resetsApplied (s : State) (x : StoreBlock) :
    (s.setStore x).resetsApplied = s.resetsApplied := rfl
@[simp] theorem State.setStore_held (s : State) (x : StoreBlock) :
    (s.setStore x).held = s.held := rfl
@[simp] theorem State.setStore_freeCount (s : State) (x : StoreBlock) :
    (s.setStore x).freeCount = s.freeCount := rfl
@[simp] theorem State.setStore_pending (s : State) (x : StoreBlock) :
    (s.setStore x).pending = s.pending := rfl
@[simp] theorem State.setResetsApplied_peers (s : State) (x : Nat) :
    (s.setResetsApplied x).peers = s.peers := rfl
@[simp] theorem State.setResetsApplied_scanTimer (s : State) (x : Nat) :
    (s.setResetsApplied x).scanTimer = s.scanTimer := rfl
@[simp] theorem State.setResetsApplied_phases (s : State) (x : Nat) :
    (s.setResetsApplied x).phases = s.phases := rfl
@[simp] theorem State.setResetsApplied_follower (s : State) (x : Nat) :
    (s.setResetsApplied x).follower = s.follower := rfl
@[simp] theorem State.setResetsApplied_checks (s : State) (x : Nat) :
    (s.setResetsApplied x).checks = s.checks := rfl
@[simp] theorem State.setResetsApplied_sensors (s : State) (x : Nat) :
    (s.setResetsApplied x).sensors = s.sensors := rfl
@[simp] theorem State.setResetsApplied_drive (s : State) (x : Nat) :
    (s.setResetsApplied x).drive = s.drive := rfl
@[simp] theorem State.setResetsApplied_guards (s : State) (x : Nat) :
    (s.setResetsApplied x).guards = s.guards := rfl
@[simp] theorem State.setResetsApplied_pendant (s : State) (x : Nat) :
    (s.setResetsApplied x).pendant = s.pendant := rfl
@[simp] theorem State.setResetsApplied_line (s : State) (x : Nat) :
    (s.setResetsApplied x).line = s.line := rfl
@[simp] theorem State.setResetsApplied_store (s : State) (x : Nat) :
    (s.setResetsApplied x).store = s.store := rfl
@[simp] theorem State.setResetsApplied_resetsApplied (s : State) (x : Nat) :
    (s.setResetsApplied x).resetsApplied = x := rfl
@[simp] theorem State.setResetsApplied_freeCount (s : State) (x : Nat) :
    (s.setResetsApplied x).freeCount = s.freeCount := rfl
@[simp] theorem State.setResetsApplied_pending (s : State) (x : Nat) :
    (s.setResetsApplied x).pending = s.pending := rfl
@[simp] theorem State.setPending_peers (s : State) (x : List Instr) :
    (s.setPending x).peers = s.peers := rfl
@[simp] theorem State.setPending_scanTimer (s : State) (x : List Instr) :
    (s.setPending x).scanTimer = s.scanTimer := rfl
@[simp] theorem State.setPending_phases (s : State) (x : List Instr) :
    (s.setPending x).phases = s.phases := rfl
@[simp] theorem State.setPending_follower (s : State) (x : List Instr) :
    (s.setPending x).follower = s.follower := rfl
@[simp] theorem State.setPending_checks (s : State) (x : List Instr) :
    (s.setPending x).checks = s.checks := rfl
@[simp] theorem State.setPending_sensors (s : State) (x : List Instr) :
    (s.setPending x).sensors = s.sensors := rfl
@[simp] theorem State.setPending_drive (s : State) (x : List Instr) :
    (s.setPending x).drive = s.drive := rfl
@[simp] theorem State.setPending_guards (s : State) (x : List Instr) :
    (s.setPending x).guards = s.guards := rfl
@[simp] theorem State.setPending_pendant (s : State) (x : List Instr) :
    (s.setPending x).pendant = s.pendant := rfl
@[simp] theorem State.setPending_line (s : State) (x : List Instr) :
    (s.setPending x).line = s.line := rfl
@[simp] theorem State.setPending_store (s : State) (x : List Instr) :
    (s.setPending x).store = s.store := rfl
@[simp] theorem State.setPending_resetsApplied (s : State) (x : List Instr) :
    (s.setPending x).resetsApplied = s.resetsApplied := rfl
@[simp] theorem State.setPending_held (s : State) (x : List Instr) :
    (s.setPending x).held = s.held := rfl
@[simp] theorem State.setPending_freeCount (s : State) (x : List Instr) :
    (s.setPending x).freeCount = s.freeCount := rfl
@[simp] theorem State.setPending_pending (s : State) (x : List Instr) :
    (s.setPending x).pending = x := rfl

/-- Whether the part is held depends on the applied resets alone. -/
theorem State.held_congr {s t : State} (h : t.resetsApplied = s.resetsApplied) : t.held = s.held := by
  simp only [State.held, h]

/-- A part that is not held has no reset applied. -/
theorem State.held_eq_false (s : State) : s.held = false ↔ s.resetsApplied = 0 := by
  simp [State.held]

end Sys2Proof.Machine
end

