-- ==== Sys2Proof/Laws/Ops.lean ====
section
/-!
SUPPORT. For each shared operation of Machine/Ops.lean, the blocks of State it leaves alone.
-/

namespace Sys2Proof.Machine

@[simp] theorem fillSlot_peers (s : State) :
    (fillSlot s).peers = s.peers := rfl
@[simp] theorem fillSlot_scanTimer (s : State) :
    (fillSlot s).scanTimer = s.scanTimer := rfl
@[simp] theorem fillSlot_phases (s : State) :
    (fillSlot s).phases = s.phases := rfl
@[simp] theorem fillSlot_follower (s : State) :
    (fillSlot s).follower = s.follower := rfl
@[simp] theorem fillSlot_checks (s : State) :
    (fillSlot s).checks = s.checks := rfl
@[simp] theorem fillSlot_sensors (s : State) :
    (fillSlot s).sensors = s.sensors := rfl
@[simp] theorem fillSlot_drive (s : State) :
    (fillSlot s).drive = s.drive := rfl
@[simp] theorem fillSlot_guards (s : State) :
    (fillSlot s).guards = s.guards := rfl
@[simp] theorem fillSlot_pendant (s : State) :
    (fillSlot s).pendant = s.pendant := rfl
@[simp] theorem fillSlot_store (s : State) :
    (fillSlot s).store = s.store := rfl
@[simp] theorem fillSlot_resetsApplied (s : State) :
    (fillSlot s).resetsApplied = s.resetsApplied := rfl
@[simp] theorem fillSlot_held (s : State) :
    (fillSlot s).held = s.held := rfl
@[simp] theorem fillSlot_freeCount (s : State) :
    (fillSlot s).freeCount = s.freeCount := rfl
@[simp] theorem fillSlot_pending (s : State) :
    (fillSlot s).pending = s.pending := rfl
@[simp] theorem requestCommand_peers (kind : CommandKind) (arg : Word) (s : State) :
    (requestCommand kind arg s).peers = s.peers := by
  simp only [requestCommand]
  repeat' split
  all_goals simp
@[simp] theorem requestCommand_scanTimer (kind : CommandKind) (arg : Word) (s : State) :
    (requestCommand kind arg s).scanTimer = s.scanTimer := by
  simp only [requestCommand]
  repeat' split
  all_goals simp
@[simp] theorem requestCommand_phases (kind : CommandKind) (arg : Word) (s : State) :
    (requestCommand kind arg s).phases = s.phases := by
  simp only [requestCommand]
  repeat' split
  all_goals simp
@[simp] theorem requestCommand_follower (kind : CommandKind) (arg : Word) (s : State) :
    (requestCommand kind arg s).follower = s.follower := by
  simp only [requestCommand]
  repeat' split
  all_goals simp
@[simp] theorem requestCommand_checks (kind : CommandKind) (arg : Word) (s : State) :
    (requestCommand kind arg s).checks = s.checks := by
  simp only [requestCommand]
  repeat' split
  all_goals simp
@[simp] theorem requestCommand_sensors (kind : CommandKind) (arg : Word) (s : State) :
    (requestCommand kind arg s).sensors = s.sensors := by
  simp only [requestCommand]
  repeat' split
  all_goals simp
@[simp] theorem requestCommand_drive (kind : CommandKind) (arg : Word) (s : State) :
    (requestCommand kind arg s).drive = s.drive := by
  simp only [requestCommand]
  repeat' split
  all_goals simp
@[simp] theorem requestCommand_guards (kind : CommandKind) (arg : Word) (s : State) :
    (requestCommand kind arg s).guards = s.guards := by
  simp only [requestCommand]
  repeat' split
  all_goals simp
@[simp] theorem requestCommand_pendant (kind : CommandKind) (arg : Word) (s : State) :
    (requestCommand kind arg s).pendant = s.pendant := by
  simp only [requestCommand]
  repeat' split
  all_goals simp
@[simp] theorem requestCommand_store (kind : CommandKind) (arg : Word) (s : State) :
    (requestCommand kind arg s).store = s.store := by
  simp only [requestCommand]
  repeat' split
  all_goals simp
@[simp] theorem requestCommand_resetsApplied (kind : CommandKind) (arg : Word) (s : State) :
    (requestCommand kind arg s).resetsApplied = s.resetsApplied := by
  simp only [requestCommand]
  repeat' split
  all_goals simp
@[simp] theorem requestCommand_held (kind : CommandKind) (arg : Word) (s : State) :
    (requestCommand kind arg s).held = s.held := by
  simp only [State.held, requestCommand_resetsApplied]
@[simp] theorem requestCommand_freeCount (kind : CommandKind) (arg : Word) (s : State) :
    (requestCommand kind arg s).freeCount = s.freeCount := by
  simp only [requestCommand]
  repeat' split
  all_goals simp
@[simp] theorem requestCommand_pending (kind : CommandKind) (arg : Word) (s : State) :
    (requestCommand kind arg s).pending = s.pending := by
  simp only [requestCommand]
  repeat' split
  all_goals simp
@[simp] theorem checksBrakeReleased_peers (s : State) :
    (checksBrakeReleased s).peers = s.peers := rfl
@[simp] theorem checksBrakeReleased_scanTimer (s : State) :
    (checksBrakeReleased s).scanTimer = s.scanTimer := rfl
@[simp] theorem checksBrakeReleased_phases (s : State) :
    (checksBrakeReleased s).phases = s.phases := rfl
@[simp] theorem checksBrakeReleased_follower (s : State) :
    (checksBrakeReleased s).follower = s.follower := rfl
@[simp] theorem checksBrakeReleased_sensors (s : State) :
    (checksBrakeReleased s).sensors = s.sensors := rfl
@[simp] theorem checksBrakeReleased_drive (s : State) :
    (checksBrakeReleased s).drive = s.drive := rfl
@[simp] theorem checksBrakeReleased_guards (s : State) :
    (checksBrakeReleased s).guards = s.guards := rfl
@[simp] theorem checksBrakeReleased_pendant (s : State) :
    (checksBrakeReleased s).pendant = s.pendant := rfl
@[simp] theorem checksBrakeReleased_line (s : State) :
    (checksBrakeReleased s).line = s.line := rfl
@[simp] theorem checksBrakeReleased_store (s : State) :
    (checksBrakeReleased s).store = s.store := rfl
@[simp] theorem checksBrakeReleased_resetsApplied (s : State) :
    (checksBrakeReleased s).resetsApplied = s.resetsApplied := rfl
@[simp] theorem checksBrakeReleased_held (s : State) :
    (checksBrakeReleased s).held = s.held := rfl
@[simp] theorem checksBrakeReleased_freeCount (s : State) :
    (checksBrakeReleased s).freeCount = s.freeCount := rfl
@[simp] theorem checksBrakeReleased_pending (s : State) :
    (checksBrakeReleased s).pending = s.pending := rfl
@[simp] theorem checksDwellExpired_peers (s : State) :
    (checksDwellExpired s).peers = s.peers := rfl
@[simp] theorem checksDwellExpired_scanTimer (s : State) :
    (checksDwellExpired s).scanTimer = s.scanTimer := rfl
@[simp] theorem checksDwellExpired_phases (s : State) :
    (checksDwellExpired s).phases = s.phases := rfl
@[simp] theorem checksDwellExpired_sensors (s : State) :
    (checksDwellExpired s).sensors = s.sensors := rfl
@[simp] theorem checksDwellExpired_drive (s : State) :
    (checksDwellExpired s).drive = s.drive := rfl
@[simp] theorem checksDwellExpired_guards (s : State) :
    (checksDwellExpired s).guards = s.guards := rfl
@[simp] theorem checksDwellExpired_pendant (s : State) :
    (checksDwellExpired s).pendant = s.pendant := rfl
@[simp] theorem checksDwellExpired_line (s : State) :
    (checksDwellExpired s).line = s.line := rfl
@[simp] theorem checksDwellExpired_store (s : State) :
    (checksDwellExpired s).store = s.store := rfl
@[simp] theorem checksDwellExpired_resetsApplied (s : State) :
    (checksDwellExpired s).resetsApplied = s.resetsApplied := rfl
@[simp] theorem checksDwellExpired_held (s : State) :
    (checksDwellExpired s).held = s.held := rfl
@[simp] theorem checksDwellExpired_freeCount (s : State) :
    (checksDwellExpired s).freeCount = s.freeCount := rfl
@[simp] theorem checksDwellExpired_pending (s : State) :
    (checksDwellExpired s).pending = s.pending := rfl
@[simp] theorem checksBrakeSet_peers (s : State) :
    (checksBrakeSet s).peers = s.peers := rfl
@[simp] theorem checksBrakeSet_scanTimer (s : State) :
    (checksBrakeSet s).scanTimer = s.scanTimer := rfl
@[simp] theorem checksBrakeSet_phases (s : State) :
    (checksBrakeSet s).phases = s.phases := rfl
@[simp] theorem checksBrakeSet_sensors (s : State) :
    (checksBrakeSet s).sensors = s.sensors := rfl
@[simp] theorem checksBrakeSet_drive (s : State) :
    (checksBrakeSet s).drive = s.drive := rfl
@[simp] theorem checksBrakeSet_guards (s : State) :
    (checksBrakeSet s).guards = s.guards := rfl
@[simp] theorem checksBrakeSet_pendant (s : State) :
    (checksBrakeSet s).pendant = s.pendant := rfl
@[simp] theorem checksBrakeSet_line (s : State) :
    (checksBrakeSet s).line = s.line := rfl
@[simp] theorem checksBrakeSet_store (s : State) :
    (checksBrakeSet s).store = s.store := rfl
@[simp] theorem checksBrakeSet_resetsApplied (s : State) :
    (checksBrakeSet s).resetsApplied = s.resetsApplied := rfl
@[simp] theorem checksBrakeSet_held (s : State) :
    (checksBrakeSet s).held = s.held := rfl
@[simp] theorem checksBrakeSet_freeCount (s : State) :
    (checksBrakeSet s).freeCount = s.freeCount := rfl
@[simp] theorem checksBrakeSet_pending (s : State) :
    (checksBrakeSet s).pending = s.pending := rfl
@[simp] theorem startDrive_peers (new : Phase) (s : State) :
    (startDrive new s).peers = s.peers := rfl
@[simp] theorem startDrive_scanTimer (new : Phase) (s : State) :
    (startDrive new s).scanTimer = s.scanTimer := rfl
@[simp] theorem startDrive_phases (new : Phase) (s : State) :
    (startDrive new s).phases = s.phases := rfl
@[simp] theorem startDrive_follower (new : Phase) (s : State) :
    (startDrive new s).follower = s.follower := rfl
@[simp] theorem startDrive_sensors (new : Phase) (s : State) :
    (startDrive new s).sensors = s.sensors := rfl
@[simp] theorem startDrive_guards (new : Phase) (s : State) :
    (startDrive new s).guards = s.guards := rfl
@[simp] theorem startDrive_pendant (new : Phase) (s : State) :
    (startDrive new s).pendant = s.pendant := rfl
@[simp] theorem startDrive_line (new : Phase) (s : State) :
    (startDrive new s).line = s.line := rfl
@[simp] theorem startDrive_store (new : Phase) (s : State) :
    (startDrive new s).store = s.store := rfl
@[simp] theorem startDrive_resetsApplied (new : Phase) (s : State) :
    (startDrive new s).resetsApplied = s.resetsApplied := rfl
@[simp] theorem startDrive_held (new : Phase) (s : State) :
    (startDrive new s).held = s.held := rfl
@[simp] theorem startDrive_freeCount (new : Phase) (s : State) :
    (startDrive new s).freeCount = s.freeCount := rfl
@[simp] theorem startDrive_pending (new : Phase) (s : State) :
    (startDrive new s).pending = s.pending := rfl
@[simp] theorem stopDrive_peers (s : State) :
    (stopDrive s).peers = s.peers := by
  simp only [stopDrive]
  repeat' split
  all_goals simp
@[simp] theorem stopDrive_scanTimer (s : State) :
    (stopDrive s).scanTimer = s.scanTimer := by
  simp only [stopDrive]
  repeat' split
  all_goals simp
@[simp] theorem stopDrive_phases (s : State) :
    (stopDrive s).phases = s.phases := by
  simp only [stopDrive]
  repeat' split
  all_goals simp
@[simp] theorem stopDrive_sensors (s : State) :
    (stopDrive s).sensors = s.sensors := by
  simp only [stopDrive]
  repeat' split
  all_goals simp
@[simp] theorem stopDrive_guards (s : State) :
    (stopDrive s).guards = s.guards := by
  simp only [stopDrive]
  repeat' split
  all_goals simp
@[simp] theorem stopDrive_pendant (s : State) :
    (stopDrive s).pendant = s.pendant := by
  simp only [stopDrive]
  repeat' split
  all_goals simp
@[simp] theorem stopDrive_line (s : State) :
    (stopDrive s).line = s.line := by
  simp only [stopDrive]
  repeat' split
  all_goals simp
@[simp] theorem stopDrive_store (s : State) :
    (stopDrive s).store = s.store := by
  simp only [stopDrive]
  repeat' split
  all_goals simp
@[simp] theorem stopDrive_resetsApplied (s : State) :
    (stopDrive s).resetsApplied = s.resetsApplied := by
  simp only [stopDrive]
  repeat' split
  all_goals simp
@[simp] theorem stopDrive_held (s : State) :
    (stopDrive s).held = s.held := by
  simp only [State.held, stopDrive_resetsApplied]
@[simp] theorem stopDrive_freeCount (s : State) :
    (stopDrive s).freeCount = s.freeCount := by
  simp only [stopDrive]
  repeat' split
  all_goals simp
@[simp] theorem stopDrive_pending (s : State) :
    (stopDrive s).pending = s.pending := by
  simp only [stopDrive]
  repeat' split
  all_goals simp
@[simp] theorem driveFollowsPhase_peers (old new : Phase) (s : State) :
    (driveFollowsPhase old new s).peers = s.peers := by
  simp only [driveFollowsPhase]
  repeat' split
  all_goals simp
@[simp] theorem driveFollowsPhase_scanTimer (old new : Phase) (s : State) :
    (driveFollowsPhase old new s).scanTimer = s.scanTimer := by
  simp only [driveFollowsPhase]
  repeat' split
  all_goals simp
@[simp] theorem driveFollowsPhase_phases (old new : Phase) (s : State) :
    (driveFollowsPhase old new s).phases = s.phases := by
  simp only [driveFollowsPhase]
  repeat' split
  all_goals simp
@[simp] theorem driveFollowsPhase_sensors (old new : Phase) (s : State) :
    (driveFollowsPhase old new s).sensors = s.sensors := by
  simp only [driveFollowsPhase]
  repeat' split
  all_goals simp
@[simp] theorem driveFollowsPhase_guards (old new : Phase) (s : State) :
    (driveFollowsPhase old new s).guards = s.guards := by
  simp only [driveFollowsPhase]
  repeat' split
  all_goals simp
@[simp] theorem driveFollowsPhase_pendant (old new : Phase) (s : State) :
    (driveFollowsPhase old new s).pendant = s.pendant := by
  simp only [driveFollowsPhase]
  repeat' split
  all_goals simp
@[simp] theorem driveFollowsPhase_line (old new : Phase) (s : State) :
    (driveFollowsPhase old new s).line = s.line := by
  simp only [driveFollowsPhase]
  repeat' split
  all_goals simp
@[simp] theorem driveFollowsPhase_store (old new : Phase) (s : State) :
    (driveFollowsPhase old new s).store = s.store := by
  simp only [driveFollowsPhase]
  repeat' split
  all_goals simp
@[simp] theorem driveFollowsPhase_resetsApplied (old new : Phase) (s : State) :
    (driveFollowsPhase old new s).resetsApplied = s.resetsApplied := by
  simp only [driveFollowsPhase]
  repeat' split
  all_goals simp
@[simp] theorem driveFollowsPhase_held (old new : Phase) (s : State) :
    (driveFollowsPhase old new s).held = s.held := by
  simp only [State.held, driveFollowsPhase_resetsApplied]
@[simp] theorem driveFollowsPhase_freeCount (old new : Phase) (s : State) :
    (driveFollowsPhase old new s).freeCount = s.freeCount := by
  simp only [driveFollowsPhase]
  repeat' split
  all_goals simp
@[simp] theorem driveFollowsPhase_pending (old new : Phase) (s : State) :
    (driveFollowsPhase old new s).pending = s.pending := by
  simp only [driveFollowsPhase]
  repeat' split
  all_goals simp
@[simp] theorem updateBlink_peers (s : State) :
    (updateBlink s).peers = s.peers := by
  simp only [updateBlink]
  repeat' split
  all_goals simp
@[simp] theorem updateBlink_scanTimer (s : State) :
    (updateBlink s).scanTimer = s.scanTimer := by
  simp only [updateBlink]
  repeat' split
  all_goals simp
@[simp] theorem updateBlink_phases (s : State) :
    (updateBlink s).phases = s.phases := by
  simp only [updateBlink]
  repeat' split
  all_goals simp
@[simp] theorem updateBlink_follower (s : State) :
    (updateBlink s).follower = s.follower := by
  simp only [updateBlink]
  repeat' split
  all_goals simp
@[simp] theorem updateBlink_checks (s : State) :
    (updateBlink s).checks = s.checks := by
  simp only [updateBlink]
  repeat' split
  all_goals simp
@[simp] theorem updateBlink_sensors (s : State) :
    (updateBlink s).sensors = s.sensors := by
  simp only [updateBlink]
  repeat' split
  all_goals simp
@[simp] theorem updateBlink_drive (s : State) :
    (updateBlink s).drive = s.drive := by
  simp only [updateBlink]
  repeat' split
  all_goals simp
@[simp] theorem updateBlink_guards (s : State) :
    (updateBlink s).guards = s.guards := by
  simp only [updateBlink]
  repeat' split
  all_goals simp
@[simp] theorem updateBlink_line (s : State) :
    (updateBlink s).line = s.line := by
  simp only [updateBlink]
  repeat' split
  all_goals simp
@[simp] theorem updateBlink_store (s : State) :
    (updateBlink s).store = s.store := by
  simp only [updateBlink]
  repeat' split
  all_goals simp
@[simp] theorem updateBlink_resetsApplied (s : State) :
    (updateBlink s).resetsApplied = s.resetsApplied := by
  simp only [updateBlink]
  repeat' split
  all_goals simp
@[simp] theorem updateBlink_held (s : State) :
    (updateBlink s).held = s.held := by
  simp only [State.held, updateBlink_resetsApplied]
@[simp] theorem updateBlink_freeCount (s : State) :
    (updateBlink s).freeCount = s.freeCount := by
  simp only [updateBlink]
  repeat' split
  all_goals simp
@[simp] theorem updateBlink_pending (s : State) :
    (updateBlink s).pending = s.pending := by
  simp only [updateBlink]
  repeat' split
  all_goals simp
@[simp] theorem showPhase_peers (s : State) :
    (showPhase s).peers = s.peers := by
  simp [showPhase]
@[simp] theorem showPhase_scanTimer (s : State) :
    (showPhase s).scanTimer = s.scanTimer := by
  simp [showPhase]
@[simp] theorem showPhase_phases (s : State) :
    (showPhase s).phases = s.phases := by
  simp [showPhase]
@[simp] theorem showPhase_follower (s : State) :
    (showPhase s).follower = s.follower := by
  simp [showPhase]
@[simp] theorem showPhase_checks (s : State) :
    (showPhase s).checks = s.checks := by
  simp [showPhase]
@[simp] theorem showPhase_sensors (s : State) :
    (showPhase s).sensors = s.sensors := by
  simp [showPhase]
@[simp] theorem showPhase_drive (s : State) :
    (showPhase s).drive = s.drive := by
  simp [showPhase]
@[simp] theorem showPhase_guards (s : State) :
    (showPhase s).guards = s.guards := by
  simp [showPhase]
@[simp] theorem showPhase_line (s : State) :
    (showPhase s).line = s.line := by
  simp [showPhase]
@[simp] theorem showPhase_store (s : State) :
    (showPhase s).store = s.store := by
  simp [showPhase]
@[simp] theorem showPhase_resetsApplied (s : State) :
    (showPhase s).resetsApplied = s.resetsApplied := by
  simp [showPhase]
@[simp] theorem showPhase_held (s : State) :
    (showPhase s).held = s.held := by
  simp only [State.held, showPhase_resetsApplied]
@[simp] theorem showPhase_freeCount (s : State) :
    (showPhase s).freeCount = s.freeCount := by
  simp [showPhase]
@[simp] theorem showPhase_pending (s : State) :
    (showPhase s).pending = s.pending := by
  simp [showPhase]
@[simp] theorem changePhase_peers (new : Phase) (s : State) :
    (changePhase new s).peers = s.peers := by
  simp only [changePhase]
  repeat' split
  all_goals simp
@[simp] theorem changePhase_scanTimer (new : Phase) (s : State) :
    (changePhase new s).scanTimer = s.scanTimer := by
  simp only [changePhase]
  repeat' split
  all_goals simp
@[simp] theorem changePhase_sensors (new : Phase) (s : State) :
    (changePhase new s).sensors = s.sensors := by
  simp only [changePhase]
  repeat' split
  all_goals simp
@[simp] theorem changePhase_guards (new : Phase) (s : State) :
    (changePhase new s).guards = s.guards := by
  simp only [changePhase]
  repeat' split
  all_goals simp
@[simp] theorem changePhase_store (new : Phase) (s : State) :
    (changePhase new s).store = s.store := by
  simp only [changePhase]
  repeat' split
  all_goals simp
@[simp] theorem changePhase_resetsApplied (new : Phase) (s : State) :
    (changePhase new s).resetsApplied = s.resetsApplied := by
  simp only [changePhase]
  repeat' split
  all_goals simp
@[simp] theorem changePhase_held (new : Phase) (s : State) :
    (changePhase new s).held = s.held := by
  simp only [State.held, changePhase_resetsApplied]
@[simp] theorem changePhase_freeCount (new : Phase) (s : State) :
    (changePhase new s).freeCount = s.freeCount := by
  simp only [changePhase]
  repeat' split
  all_goals simp
@[simp] theorem changePhase_pending (new : Phase) (s : State) :
    (changePhase new s).pending = s.pending := by
  simp only [changePhase]
  repeat' split
  all_goals simp
@[simp] theorem report_peers (cause : Cause) (s : State) :
    (report cause s).peers = s.peers := by
  simp only [report]
  repeat' split
  all_goals simp
@[simp] theorem report_scanTimer (cause : Cause) (s : State) :
    (report cause s).scanTimer = s.scanTimer := by
  simp only [report]
  repeat' split
  all_goals simp
@[simp] theorem report_sensors (cause : Cause) (s : State) :
    (report cause s).sensors = s.sensors := by
  simp only [report]
  repeat' split
  all_goals simp
@[simp] theorem report_guards (cause : Cause) (s : State) :
    (report cause s).guards = s.guards := by
  simp only [report]
  repeat' split
  all_goals simp
@[simp] theorem report_store (cause : Cause) (s : State) :
    (report cause s).store = s.store := by
  simp only [report]
  repeat' split
  all_goals simp
@[simp] theorem report_resetsApplied (cause : Cause) (s : State) :
    (report cause s).resetsApplied = s.resetsApplied := by
  simp only [report]
  repeat' split
  all_goals simp
@[simp] theorem report_held (cause : Cause) (s : State) :
    (report cause s).held = s.held := by
  simp only [State.held, report_resetsApplied]
@[simp] theorem report_freeCount (cause : Cause) (s : State) :
    (report cause s).freeCount = s.freeCount := by
  simp only [report]
  repeat' split
  all_goals simp
@[simp] theorem report_pending (cause : Cause) (s : State) :
    (report cause s).pending = s.pending := by
  simp only [report]
  repeat' split
  all_goals simp
@[simp] theorem latchPeerHalt_peers (station : Nat) (s : State) :
    (latchPeerHalt station s).peers = s.peers := by
  simp only [latchPeerHalt]
  repeat' split
  all_goals simp
@[simp] theorem latchPeerHalt_scanTimer (station : Nat) (s : State) :
    (latchPeerHalt station s).scanTimer = s.scanTimer := by
  simp only [latchPeerHalt]
  repeat' split
  all_goals simp
@[simp] theorem latchPeerHalt_sensors (station : Nat) (s : State) :
    (latchPeerHalt station s).sensors = s.sensors := by
  simp only [latchPeerHalt]
  repeat' split
  all_goals simp
@[simp] theorem latchPeerHalt_guards (station : Nat) (s : State) :
    (latchPeerHalt station s).guards = s.guards := by
  simp only [latchPeerHalt]
  repeat' split
  all_goals simp
@[simp] theorem latchPeerHalt_store (station : Nat) (s : State) :
    (latchPeerHalt station s).store = s.store := by
  simp only [latchPeerHalt]
  repeat' split
  all_goals simp
@[simp] theorem latchPeerHalt_resetsApplied (station : Nat) (s : State) :
    (latchPeerHalt station s).resetsApplied = s.resetsApplied := by
  simp only [latchPeerHalt]
  repeat' split
  all_goals simp
@[simp] theorem latchPeerHalt_held (station : Nat) (s : State) :
    (latchPeerHalt station s).held = s.held := by
  simp only [State.held, latchPeerHalt_resetsApplied]
@[simp] theorem latchPeerHalt_freeCount (station : Nat) (s : State) :
    (latchPeerHalt station s).freeCount = s.freeCount := by
  simp only [latchPeerHalt]
  repeat' split
  all_goals simp
@[simp] theorem latchPeerHalt_pending (station : Nat) (s : State) :
    (latchPeerHalt station s).pending = s.pending := by
  simp only [latchPeerHalt]
  repeat' split
  all_goals simp
@[simp] theorem arriveFrame_peers (frame : RxFrame) (s : State) :
    (arriveFrame frame s).peers = s.peers := by
  simp only [arriveFrame]
  repeat' split
  all_goals simp
@[simp] theorem arriveFrame_scanTimer (frame : RxFrame) (s : State) :
    (arriveFrame frame s).scanTimer = s.scanTimer := by
  simp only [arriveFrame]
  repeat' split
  all_goals simp
@[simp] theorem arriveFrame_sensors (frame : RxFrame) (s : State) :
    (arriveFrame frame s).sensors = s.sensors := by
  simp only [arriveFrame]
  repeat' split
  all_goals simp
@[simp] theorem arriveFrame_guards (frame : RxFrame) (s : State) :
    (arriveFrame frame s).guards = s.guards := by
  simp only [arriveFrame]
  repeat' split
  all_goals simp
@[simp] theorem arriveFrame_store (frame : RxFrame) (s : State) :
    (arriveFrame frame s).store = s.store := by
  simp only [arriveFrame]
  repeat' split
  all_goals simp
@[simp] theorem arriveFrame_resetsApplied (frame : RxFrame) (s : State) :
    (arriveFrame frame s).resetsApplied = s.resetsApplied := by
  simp only [arriveFrame]
  repeat' split
  all_goals simp
@[simp] theorem arriveFrame_held (frame : RxFrame) (s : State) :
    (arriveFrame frame s).held = s.held := by
  simp only [State.held, arriveFrame_resetsApplied]
@[simp] theorem arriveFrame_freeCount (frame : RxFrame) (s : State) :
    (arriveFrame frame s).freeCount = s.freeCount := by
  simp only [arriveFrame]
  repeat' split
  all_goals simp
@[simp] theorem arriveFrame_pending (frame : RxFrame) (s : State) :
    (arriveFrame frame s).pending = s.pending := by
  simp only [arriveFrame]
  repeat' split
  all_goals simp
@[simp] theorem leaveListen_peers (s : State) :
    (leaveListen s).peers = s.peers := by
  simp only [leaveListen]
  repeat' split
  all_goals simp
@[simp] theorem leaveListen_scanTimer (s : State) :
    (leaveListen s).scanTimer = s.scanTimer := by
  simp only [leaveListen]
  repeat' split
  all_goals simp
@[simp] theorem leaveListen_sensors (s : State) :
    (leaveListen s).sensors = s.sensors := by
  simp only [leaveListen]
  repeat' split
  all_goals simp
@[simp] theorem leaveListen_guards (s : State) :
    (leaveListen s).guards = s.guards := by
  simp only [leaveListen]
  repeat' split
  all_goals simp
@[simp] theorem leaveListen_store (s : State) :
    (leaveListen s).store = s.store := by
  simp only [leaveListen]
  repeat' split
  all_goals simp
@[simp] theorem leaveListen_resetsApplied (s : State) :
    (leaveListen s).resetsApplied = s.resetsApplied := by
  simp only [leaveListen]
  repeat' split
  all_goals simp
@[simp] theorem leaveListen_held (s : State) :
    (leaveListen s).held = s.held := by
  simp only [State.held, leaveListen_resetsApplied]
@[simp] theorem leaveListen_freeCount (s : State) :
    (leaveListen s).freeCount = s.freeCount := by
  simp only [leaveListen]
  repeat' split
  all_goals simp
@[simp] theorem leaveListen_pending (s : State) :
    (leaveListen s).pending = s.pending := by
  simp only [leaveListen]
  repeat' split
  all_goals simp
@[simp] theorem enterSeek_peers (s : State) :
    (enterSeek s).peers = s.peers := by
  simp [enterSeek]
@[simp] theorem enterSeek_scanTimer (s : State) :
    (enterSeek s).scanTimer = s.scanTimer := by
  simp [enterSeek]
@[simp] theorem enterSeek_sensors (s : State) :
    (enterSeek s).sensors = s.sensors := by
  simp [enterSeek]
@[simp] theorem enterSeek_guards (s : State) :
    (enterSeek s).guards = s.guards := by
  simp [enterSeek]
@[simp] theorem enterSeek_store (s : State) :
    (enterSeek s).store = s.store := by
  simp [enterSeek]
@[simp] theorem enterSeek_resetsApplied (s : State) :
    (enterSeek s).resetsApplied = s.resetsApplied := by
  simp [enterSeek]
@[simp] theorem enterSeek_held (s : State) :
    (enterSeek s).held = s.held := by
  simp only [State.held, enterSeek_resetsApplied]
@[simp] theorem enterSeek_freeCount (s : State) :
    (enterSeek s).freeCount = s.freeCount := by
  simp [enterSeek]
@[simp] theorem enterSeek_pending (s : State) :
    (enterSeek s).pending = s.pending := by
  simp [enterSeek]
@[simp] theorem evaluateSeating_peers (s : State) :
    (evaluateSeating s).peers = s.peers := by
  simp only [evaluateSeating]
  repeat' split
  all_goals simp
@[simp] theorem evaluateSeating_scanTimer (s : State) :
    (evaluateSeating s).scanTimer = s.scanTimer := by
  simp only [evaluateSeating]
  repeat' split
  all_goals simp
@[simp] theorem evaluateSeating_sensors (s : State) :
    (evaluateSeating s).sensors = s.sensors := by
  simp only [evaluateSeating]
  repeat' split
  all_goals simp
@[simp] theorem evaluateSeating_guards (s : State) :
    (evaluateSeating s).guards = s.guards := by
  simp only [evaluateSeating]
  repeat' split
  all_goals simp
@[simp] theorem evaluateSeating_store (s : State) :
    (evaluateSeating s).store = s.store := by
  simp only [evaluateSeating]
  repeat' split
  all_goals simp
@[simp] theorem evaluateSeating_resetsApplied (s : State) :
    (evaluateSeating s).resetsApplied = s.resetsApplied := by
  simp only [evaluateSeating]
  repeat' split
  all_goals simp
@[simp] theorem evaluateSeating_held (s : State) :
    (evaluateSeating s).held = s.held := by
  simp only [State.held, evaluateSeating_resetsApplied]
@[simp] theorem evaluateSeating_freeCount (s : State) :
    (evaluateSeating s).freeCount = s.freeCount := by
  simp only [evaluateSeating]
  repeat' split
  all_goals simp
@[simp] theorem evaluateSeating_pending (s : State) :
    (evaluateSeating s).pending = s.pending := by
  simp only [evaluateSeating]
  repeat' split
  all_goals simp
@[simp] theorem enterSeated_peers (s : State) :
    (enterSeated s).peers = s.peers := by
  simp [enterSeated]
@[simp] theorem enterSeated_scanTimer (s : State) :
    (enterSeated s).scanTimer = s.scanTimer := by
  simp [enterSeated]
@[simp] theorem enterSeated_sensors (s : State) :
    (enterSeated s).sensors = s.sensors := by
  simp [enterSeated]
@[simp] theorem enterSeated_guards (s : State) :
    (enterSeated s).guards = s.guards := by
  simp [enterSeated]
@[simp] theorem enterSeated_store (s : State) :
    (enterSeated s).store = s.store := by
  simp [enterSeated]
@[simp] theorem enterSeated_resetsApplied (s : State) :
    (enterSeated s).resetsApplied = s.resetsApplied := by
  simp [enterSeated]
@[simp] theorem enterSeated_held (s : State) :
    (enterSeated s).held = s.held := by
  simp only [State.held, enterSeated_resetsApplied]
@[simp] theorem enterSeated_freeCount (s : State) :
    (enterSeated s).freeCount = s.freeCount := by
  simp [enterSeated]
@[simp] theorem enterSeated_pending (s : State) :
    (enterSeated s).pending = s.pending := by
  simp [enterSeated]
@[simp] theorem arrive_peers (atMark : Bool) (s : State) :
    (arrive atMark s).peers = s.peers := by
  simp only [arrive]
  repeat' split
  all_goals simp
@[simp] theorem arrive_scanTimer (atMark : Bool) (s : State) :
    (arrive atMark s).scanTimer = s.scanTimer := by
  simp only [arrive]
  repeat' split
  all_goals simp
@[simp] theorem arrive_sensors (atMark : Bool) (s : State) :
    (arrive atMark s).sensors = s.sensors := by
  simp only [arrive]
  repeat' split
  all_goals simp
@[simp] theorem arrive_guards (atMark : Bool) (s : State) :
    (arrive atMark s).guards = s.guards := by
  simp only [arrive]
  repeat' split
  all_goals simp
@[simp] theorem arrive_store (atMark : Bool) (s : State) :
    (arrive atMark s).store = s.store := by
  simp only [arrive]
  repeat' split
  all_goals simp
@[simp] theorem arrive_resetsApplied (atMark : Bool) (s : State) :
    (arrive atMark s).resetsApplied = s.resetsApplied := by
  simp only [arrive]
  repeat' split
  all_goals simp
@[simp] theorem arrive_held (atMark : Bool) (s : State) :
    (arrive atMark s).held = s.held := by
  simp only [State.held, arrive_resetsApplied]
@[simp] theorem arrive_freeCount (atMark : Bool) (s : State) :
    (arrive atMark s).freeCount = s.freeCount := by
  simp only [arrive]
  repeat' split
  all_goals simp
@[simp] theorem arrive_pending (atMark : Bool) (s : State) :
    (arrive atMark s).pending = s.pending := by
  simp only [arrive]
  repeat' split
  all_goals simp
@[simp] theorem requestEstop_peers (s : State) :
    (requestEstop s).peers = s.peers := by
  simp [requestEstop]
@[simp] theorem requestEstop_scanTimer (s : State) :
    (requestEstop s).scanTimer = s.scanTimer := by
  simp [requestEstop]
@[simp] theorem requestEstop_phases (s : State) :
    (requestEstop s).phases = s.phases := by
  simp [requestEstop]
@[simp] theorem requestEstop_follower (s : State) :
    (requestEstop s).follower = s.follower := by
  simp [requestEstop]
@[simp] theorem requestEstop_checks (s : State) :
    (requestEstop s).checks = s.checks := by
  simp [requestEstop]
@[simp] theorem requestEstop_sensors (s : State) :
    (requestEstop s).sensors = s.sensors := by
  simp [requestEstop]
@[simp] theorem requestEstop_drive (s : State) :
    (requestEstop s).drive = s.drive := by
  simp [requestEstop]
@[simp] theorem requestEstop_guards (s : State) :
    (requestEstop s).guards = s.guards := by
  simp [requestEstop]
@[simp] theorem requestEstop_pendant (s : State) :
    (requestEstop s).pendant = s.pendant := by
  simp [requestEstop]
@[simp] theorem requestEstop_store (s : State) :
    (requestEstop s).store = s.store := by
  simp [requestEstop]
@[simp] theorem requestEstop_resetsApplied (s : State) :
    (requestEstop s).resetsApplied = s.resetsApplied := by
  simp [requestEstop]
@[simp] theorem requestEstop_held (s : State) :
    (requestEstop s).held = s.held := by
  simp only [State.held, requestEstop_resetsApplied]
@[simp] theorem requestEstop_freeCount (s : State) :
    (requestEstop s).freeCount = s.freeCount := by
  simp [requestEstop]
@[simp] theorem requestEstop_pending (s : State) :
    (requestEstop s).pending = s.pending := by
  simp [requestEstop]
@[simp] theorem setPending_peers (i : Fin 8) (s : State) :
    (setPending i s).peers = s.peers := rfl
@[simp] theorem setPending_scanTimer (i : Fin 8) (s : State) :
    (setPending i s).scanTimer = s.scanTimer := rfl
@[simp] theorem setPending_phases (i : Fin 8) (s : State) :
    (setPending i s).phases = s.phases := rfl
@[simp] theorem setPending_follower (i : Fin 8) (s : State) :
    (setPending i s).follower = s.follower := rfl
@[simp] theorem setPending_checks (i : Fin 8) (s : State) :
    (setPending i s).checks = s.checks := rfl
@[simp] theorem setPending_sensors (i : Fin 8) (s : State) :
    (setPending i s).sensors = s.sensors := rfl
@[simp] theorem setPending_drive (i : Fin 8) (s : State) :
    (setPending i s).drive = s.drive := rfl
@[simp] theorem setPending_pendant (i : Fin 8) (s : State) :
    (setPending i s).pendant = s.pendant := rfl
@[simp] theorem setPending_line (i : Fin 8) (s : State) :
    (setPending i s).line = s.line := rfl
@[simp] theorem setPending_store (i : Fin 8) (s : State) :
    (setPending i s).store = s.store := rfl
@[simp] theorem setPending_resetsApplied (i : Fin 8) (s : State) :
    (setPending i s).resetsApplied = s.resetsApplied := rfl
@[simp] theorem setPending_held (i : Fin 8) (s : State) :
    (setPending i s).held = s.held := rfl
@[simp] theorem setPending_freeCount (i : Fin 8) (s : State) :
    (setPending i s).freeCount = s.freeCount := rfl
@[simp] theorem setPending_pending (i : Fin 8) (s : State) :
    (setPending i s).pending = s.pending := rfl
@[simp] theorem reportGuard_peers (i : Fin 8) (s : State) :
    (reportGuard i s).peers = s.peers := by
  simp only [reportGuard]
  repeat' split
  all_goals simp
@[simp] theorem reportGuard_scanTimer (i : Fin 8) (s : State) :
    (reportGuard i s).scanTimer = s.scanTimer := by
  simp only [reportGuard]
  repeat' split
  all_goals simp
@[simp] theorem reportGuard_sensors (i : Fin 8) (s : State) :
    (reportGuard i s).sensors = s.sensors := by
  simp only [reportGuard]
  repeat' split
  all_goals simp
@[simp] theorem reportGuard_guards (i : Fin 8) (s : State) :
    (reportGuard i s).guards = s.guards := by
  simp only [reportGuard]
  repeat' split
  all_goals simp
@[simp] theorem reportGuard_store (i : Fin 8) (s : State) :
    (reportGuard i s).store = s.store := by
  simp only [reportGuard]
  repeat' split
  all_goals simp
@[simp] theorem reportGuard_resetsApplied (i : Fin 8) (s : State) :
    (reportGuard i s).resetsApplied = s.resetsApplied := by
  simp only [reportGuard]
  repeat' split
  all_goals simp
@[simp] theorem reportGuard_held (i : Fin 8) (s : State) :
    (reportGuard i s).held = s.held := by
  simp only [State.held, reportGuard_resetsApplied]
@[simp] theorem reportGuard_freeCount (i : Fin 8) (s : State) :
    (reportGuard i s).freeCount = s.freeCount := by
  simp only [reportGuard]
  repeat' split
  all_goals simp
@[simp] theorem reportGuard_pending (i : Fin 8) (s : State) :
    (reportGuard i s).pending = s.pending := by
  simp only [reportGuard]
  repeat' split
  all_goals simp
@[simp] theorem bottomEdge_peers (s : State) :
    (bottomEdge s).peers = s.peers := by
  simp only [bottomEdge]
  repeat' split
  all_goals simp
@[simp] theorem bottomEdge_scanTimer (s : State) :
    (bottomEdge s).scanTimer = s.scanTimer := by
  simp only [bottomEdge]
  repeat' split
  all_goals simp
@[simp] theorem bottomEdge_sensors (s : State) :
    (bottomEdge s).sensors = s.sensors := by
  simp only [bottomEdge]
  repeat' split
  all_goals simp
@[simp] theorem bottomEdge_store (s : State) :
    (bottomEdge s).store = s.store := by
  simp only [bottomEdge]
  repeat' split
  all_goals simp
@[simp] theorem bottomEdge_resetsApplied (s : State) :
    (bottomEdge s).resetsApplied = s.resetsApplied := by
  simp only [bottomEdge]
  repeat' split
  all_goals simp
@[simp] theorem bottomEdge_held (s : State) :
    (bottomEdge s).held = s.held := by
  simp only [State.held, bottomEdge_resetsApplied]
@[simp] theorem bottomEdge_freeCount (s : State) :
    (bottomEdge s).freeCount = s.freeCount := by
  simp only [bottomEdge]
  repeat' split
  all_goals simp
@[simp] theorem bottomEdge_pending (s : State) :
    (bottomEdge s).pending = s.pending := by
  simp only [bottomEdge]
  repeat' split
  all_goals simp
@[simp] theorem guardEdge_peers (i : Fin 8) (s : State) :
    (guardEdge i s).peers = s.peers := by
  simp only [guardEdge]
  repeat' split
  all_goals simp
@[simp] theorem guardEdge_scanTimer (i : Fin 8) (s : State) :
    (guardEdge i s).scanTimer = s.scanTimer := by
  simp only [guardEdge]
  repeat' split
  all_goals simp
@[simp] theorem guardEdge_sensors (i : Fin 8) (s : State) :
    (guardEdge i s).sensors = s.sensors := by
  simp only [guardEdge]
  repeat' split
  all_goals simp
@[simp] theorem guardEdge_store (i : Fin 8) (s : State) :
    (guardEdge i s).store = s.store := by
  simp only [guardEdge]
  repeat' split
  all_goals simp
@[simp] theorem guardEdge_resetsApplied (i : Fin 8) (s : State) :
    (guardEdge i s).resetsApplied = s.resetsApplied := by
  simp only [guardEdge]
  repeat' split
  all_goals simp
@[simp] theorem guardEdge_held (i : Fin 8) (s : State) :
    (guardEdge i s).held = s.held := by
  simp only [State.held, guardEdge_resetsApplied]
@[simp] theorem guardEdge_freeCount (i : Fin 8) (s : State) :
    (guardEdge i s).freeCount = s.freeCount := by
  simp only [guardEdge]
  repeat' split
  all_goals simp
@[simp] theorem guardEdge_pending (i : Fin 8) (s : State) :
    (guardEdge i s).pending = s.pending := by
  simp only [guardEdge]
  repeat' split
  all_goals simp
@[simp] theorem pseudoEdge_peers (s : State) (i : Fin 8) :
    (pseudoEdge s i).peers = s.peers := by
  simp only [pseudoEdge]
  repeat' split
  all_goals simp
@[simp] theorem pseudoEdge_scanTimer (s : State) (i : Fin 8) :
    (pseudoEdge s i).scanTimer = s.scanTimer := by
  simp only [pseudoEdge]
  repeat' split
  all_goals simp
@[simp] theorem pseudoEdge_sensors (s : State) (i : Fin 8) :
    (pseudoEdge s i).sensors = s.sensors := by
  simp only [pseudoEdge]
  repeat' split
  all_goals simp
@[simp] theorem pseudoEdge_store (s : State) (i : Fin 8) :
    (pseudoEdge s i).store = s.store := by
  simp only [pseudoEdge]
  repeat' split
  all_goals simp
@[simp] theorem pseudoEdge_resetsApplied (s : State) (i : Fin 8) :
    (pseudoEdge s i).resetsApplied = s.resetsApplied := by
  simp only [pseudoEdge]
  repeat' split
  all_goals simp
@[simp] theorem pseudoEdge_held (s : State) (i : Fin 8) :
    (pseudoEdge s i).held = s.held := by
  simp only [State.held, pseudoEdge_resetsApplied]
@[simp] theorem pseudoEdge_freeCount (s : State) (i : Fin 8) :
    (pseudoEdge s i).freeCount = s.freeCount := by
  simp only [pseudoEdge]
  repeat' split
  all_goals simp
@[simp] theorem pseudoEdge_pending (s : State) (i : Fin 8) :
    (pseudoEdge s i).pending = s.pending := by
  simp only [pseudoEdge]
  repeat' split
  all_goals simp
@[simp] theorem pseudoEdges_peers (lines : List (Fin 8)) (s : State) :
    (lines.foldl pseudoEdge s).peers = s.peers := by
  induction lines generalizing s with
  | nil => rfl
  | cons i rest ih => exact (ih (pseudoEdge s i)).trans (pseudoEdge_peers s i)
@[simp] theorem pseudoEdges_scanTimer (lines : List (Fin 8)) (s : State) :
    (lines.foldl pseudoEdge s).scanTimer = s.scanTimer := by
  induction lines generalizing s with
  | nil => rfl
  | cons i rest ih => exact (ih (pseudoEdge s i)).trans (pseudoEdge_scanTimer s i)
@[simp] theorem pseudoEdges_sensors (lines : List (Fin 8)) (s : State) :
    (lines.foldl pseudoEdge s).sensors = s.sensors := by
  induction lines generalizing s with
  | nil => rfl
  | cons i rest ih => exact (ih (pseudoEdge s i)).trans (pseudoEdge_sensors s i)
@[simp] theorem pseudoEdges_store (lines : List (Fin 8)) (s : State) :
    (lines.foldl pseudoEdge s).store = s.store := by
  induction lines generalizing s with
  | nil => rfl
  | cons i rest ih => exact (ih (pseudoEdge s i)).trans (pseudoEdge_store s i)
@[simp] theorem pseudoEdges_resetsApplied (lines : List (Fin 8)) (s : State) :
    (lines.foldl pseudoEdge s).resetsApplied = s.resetsApplied := by
  induction lines generalizing s with
  | nil => rfl
  | cons i rest ih => exact (ih (pseudoEdge s i)).trans (pseudoEdge_resetsApplied s i)
@[simp] theorem pseudoEdges_held (lines : List (Fin 8)) (s : State) :
    (lines.foldl pseudoEdge s).held = s.held := by
  simp only [State.held, pseudoEdges_resetsApplied]
@[simp] theorem pseudoEdges_freeCount (lines : List (Fin 8)) (s : State) :
    (lines.foldl pseudoEdge s).freeCount = s.freeCount := by
  induction lines generalizing s with
  | nil => rfl
  | cons i rest ih => exact (ih (pseudoEdge s i)).trans (pseudoEdge_freeCount s i)
@[simp] theorem pseudoEdges_pending (lines : List (Fin 8)) (s : State) :
    (lines.foldl pseudoEdge s).pending = s.pending := by
  induction lines generalizing s with
  | nil => rfl
  | cons i rest ih => exact (ih (pseudoEdge s i)).trans (pseudoEdge_pending s i)
@[simp] theorem enterListenFromInit_peers (s : State) :
    (enterListenFromInit s).peers = s.peers := by
  simp only [enterListenFromInit]
  repeat' split
  all_goals simp
@[simp] theorem enterListenFromInit_scanTimer (s : State) :
    (enterListenFromInit s).scanTimer = s.scanTimer := by
  simp only [enterListenFromInit]
  repeat' split
  all_goals simp
@[simp] theorem enterListenFromInit_sensors (s : State) :
    (enterListenFromInit s).sensors = s.sensors := by
  simp only [enterListenFromInit]
  repeat' split
  all_goals simp
@[simp] theorem enterListenFromInit_store (s : State) :
    (enterListenFromInit s).store = s.store := by
  simp only [enterListenFromInit]
  repeat' split
  all_goals simp
@[simp] theorem enterListenFromInit_resetsApplied (s : State) :
    (enterListenFromInit s).resetsApplied = s.resetsApplied := by
  simp only [enterListenFromInit]
  repeat' split
  all_goals simp
@[simp] theorem enterListenFromInit_held (s : State) :
    (enterListenFromInit s).held = s.held := by
  simp only [State.held, enterListenFromInit_resetsApplied]
@[simp] theorem enterListenFromInit_freeCount (s : State) :
    (enterListenFromInit s).freeCount = s.freeCount := by
  simp only [enterListenFromInit]
  repeat' split
  all_goals simp
@[simp] theorem enterListenFromInit_pending (s : State) :
    (enterListenFromInit s).pending = s.pending := by
  simp only [enterListenFromInit]
  repeat' split
  all_goals simp
@[simp] theorem afterRemoval_peers (s : State) (cause : Cause) :
    (afterRemoval s cause).peers = s.peers := by
  simp only [afterRemoval]
  repeat' split
  all_goals simp
@[simp] theorem afterRemoval_scanTimer (s : State) (cause : Cause) :
    (afterRemoval s cause).scanTimer = s.scanTimer := by
  simp only [afterRemoval]
  repeat' split
  all_goals simp
@[simp] theorem afterRemoval_phases (s : State) (cause : Cause) :
    (afterRemoval s cause).phases = s.phases := by
  simp only [afterRemoval]
  repeat' split
  all_goals simp
@[simp] theorem afterRemoval_follower (s : State) (cause : Cause) :
    (afterRemoval s cause).follower = s.follower := by
  simp only [afterRemoval]
  repeat' split
  all_goals simp
@[simp] theorem afterRemoval_sensors (s : State) (cause : Cause) :
    (afterRemoval s cause).sensors = s.sensors := by
  simp only [afterRemoval]
  repeat' split
  all_goals simp
@[simp] theorem afterRemoval_drive (s : State) (cause : Cause) :
    (afterRemoval s cause).drive = s.drive := by
  simp only [afterRemoval]
  repeat' split
  all_goals simp
@[simp] theorem afterRemoval_pendant (s : State) (cause : Cause) :
    (afterRemoval s cause).pendant = s.pendant := by
  simp only [afterRemoval]
  repeat' split
  all_goals simp
@[simp] theorem afterRemoval_store (s : State) (cause : Cause) :
    (afterRemoval s cause).store = s.store := by
  simp only [afterRemoval]
  repeat' split
  all_goals simp
@[simp] theorem afterRemoval_resetsApplied (s : State) (cause : Cause) :
    (afterRemoval s cause).resetsApplied = s.resetsApplied := by
  simp only [afterRemoval]
  repeat' split
  all_goals simp
@[simp] theorem afterRemoval_held (s : State) (cause : Cause) :
    (afterRemoval s cause).held = s.held := by
  simp only [State.held, afterRemoval_resetsApplied]
@[simp] theorem afterRemoval_freeCount (s : State) (cause : Cause) :
    (afterRemoval s cause).freeCount = s.freeCount := by
  simp only [afterRemoval]
  repeat' split
  all_goals simp
@[simp] theorem afterRemoval_pending (s : State) (cause : Cause) :
    (afterRemoval s cause).pending = s.pending := by
  simp only [afterRemoval]
  repeat' split
  all_goals simp
@[simp] theorem afterRemovals_peers (causes : List Cause) (s : State) :
    (causes.foldl afterRemoval s).peers = s.peers := by
  induction causes generalizing s with
  | nil => rfl
  | cons c rest ih => exact (ih (afterRemoval s c)).trans (afterRemoval_peers s c)
@[simp] theorem afterRemovals_scanTimer (causes : List Cause) (s : State) :
    (causes.foldl afterRemoval s).scanTimer = s.scanTimer := by
  induction causes generalizing s with
  | nil => rfl
  | cons c rest ih => exact (ih (afterRemoval s c)).trans (afterRemoval_scanTimer s c)
@[simp] theorem afterRemovals_phases (causes : List Cause) (s : State) :
    (causes.foldl afterRemoval s).phases = s.phases := by
  induction causes generalizing s with
  | nil => rfl
  | cons c rest ih => exact (ih (afterRemoval s c)).trans (afterRemoval_phases s c)
@[simp] theorem afterRemovals_follower (causes : List Cause) (s : State) :
    (causes.foldl afterRemoval s).follower = s.follower := by
  induction causes generalizing s with
  | nil => rfl
  | cons c rest ih => exact (ih (afterRemoval s c)).trans (afterRemoval_follower s c)
@[simp] theorem afterRemovals_sensors (causes : List Cause) (s : State) :
    (causes.foldl afterRemoval s).sensors = s.sensors := by
  induction causes generalizing s with
  | nil => rfl
  | cons c rest ih => exact (ih (afterRemoval s c)).trans (afterRemoval_sensors s c)
@[simp] theorem afterRemovals_drive (causes : List Cause) (s : State) :
    (causes.foldl afterRemoval s).drive = s.drive := by
  induction causes generalizing s with
  | nil => rfl
  | cons c rest ih => exact (ih (afterRemoval s c)).trans (afterRemoval_drive s c)
@[simp] theorem afterRemovals_pendant (causes : List Cause) (s : State) :
    (causes.foldl afterRemoval s).pendant = s.pendant := by
  induction causes generalizing s with
  | nil => rfl
  | cons c rest ih => exact (ih (afterRemoval s c)).trans (afterRemoval_pendant s c)
@[simp] theorem afterRemovals_store (causes : List Cause) (s : State) :
    (causes.foldl afterRemoval s).store = s.store := by
  induction causes generalizing s with
  | nil => rfl
  | cons c rest ih => exact (ih (afterRemoval s c)).trans (afterRemoval_store s c)
@[simp] theorem afterRemovals_resetsApplied (causes : List Cause) (s : State) :
    (causes.foldl afterRemoval s).resetsApplied = s.resetsApplied := by
  induction causes generalizing s with
  | nil => rfl
  | cons c rest ih => exact (ih (afterRemoval s c)).trans (afterRemoval_resetsApplied s c)
@[simp] theorem afterRemovals_held (causes : List Cause) (s : State) :
    (causes.foldl afterRemoval s).held = s.held := by
  simp only [State.held, afterRemovals_resetsApplied]
@[simp] theorem afterRemovals_freeCount (causes : List Cause) (s : State) :
    (causes.foldl afterRemoval s).freeCount = s.freeCount := by
  induction causes generalizing s with
  | nil => rfl
  | cons c rest ih => exact (ih (afterRemoval s c)).trans (afterRemoval_freeCount s c)
@[simp] theorem afterRemovals_pending (causes : List Cause) (s : State) :
    (causes.foldl afterRemoval s).pending = s.pending := by
  induction causes generalizing s with
  | nil => rfl
  | cons c rest ih => exact (ih (afterRemoval s c)).trans (afterRemoval_pending s c)
@[simp] theorem removeCauses_peers (s : State) :
    (removeCauses s).peers = s.peers := by
  simp [removeCauses]
@[simp] theorem removeCauses_scanTimer (s : State) :
    (removeCauses s).scanTimer = s.scanTimer := by
  simp [removeCauses]
@[simp] theorem removeCauses_follower (s : State) :
    (removeCauses s).follower = s.follower := by
  simp [removeCauses]
@[simp] theorem removeCauses_sensors (s : State) :
    (removeCauses s).sensors = s.sensors := by
  simp [removeCauses]
@[simp] theorem removeCauses_drive (s : State) :
    (removeCauses s).drive = s.drive := by
  simp [removeCauses]
@[simp] theorem removeCauses_pendant (s : State) :
    (removeCauses s).pendant = s.pendant := by
  simp [removeCauses]
@[simp] theorem removeCauses_store (s : State) :
    (removeCauses s).store = s.store := by
  simp [removeCauses]
@[simp] theorem removeCauses_resetsApplied (s : State) :
    (removeCauses s).resetsApplied = s.resetsApplied := by
  simp [removeCauses]
@[simp] theorem removeCauses_held (s : State) :
    (removeCauses s).held = s.held := by
  simp only [State.held, removeCauses_resetsApplied]
@[simp] theorem removeCauses_freeCount (s : State) :
    (removeCauses s).freeCount = s.freeCount := by
  simp [removeCauses]
@[simp] theorem removeCauses_pending (s : State) :
    (removeCauses s).pending = s.pending := by
  simp [removeCauses]
@[simp] theorem acknowledge_peers (s : State) :
    (acknowledge s).peers = s.peers := by
  simp only [acknowledge]
  repeat' split
  all_goals simp
@[simp] theorem acknowledge_scanTimer (s : State) :
    (acknowledge s).scanTimer = s.scanTimer := by
  simp only [acknowledge]
  repeat' split
  all_goals simp
@[simp] theorem acknowledge_sensors (s : State) :
    (acknowledge s).sensors = s.sensors := by
  simp only [acknowledge]
  repeat' split
  all_goals simp
@[simp] theorem acknowledge_store (s : State) :
    (acknowledge s).store = s.store := by
  simp only [acknowledge]
  repeat' split
  all_goals simp
@[simp] theorem acknowledge_resetsApplied (s : State) :
    (acknowledge s).resetsApplied = s.resetsApplied := by
  simp only [acknowledge]
  repeat' split
  all_goals simp
@[simp] theorem acknowledge_held (s : State) :
    (acknowledge s).held = s.held := by
  simp only [State.held, acknowledge_resetsApplied]
@[simp] theorem acknowledge_freeCount (s : State) :
    (acknowledge s).freeCount = s.freeCount := by
  simp only [acknowledge]
  repeat' split
  all_goals simp
@[simp] theorem acknowledge_pending (s : State) :
    (acknowledge s).pending = s.pending := by
  simp only [acknowledge]
  repeat' split
  all_goals simp

end Sys2Proof.Machine
end

