-- ==== Sys2Proof/Laws/Phase.lean ====
section
/-!
SUPPORT. What a change of phase, a report and a latch leave in the fields of the blocks they write.
-/

namespace Sys2Proof.Machine

theorem changePhase_same (s : State) : changePhase s.phases.phase s = s := by
  simp [changePhase]

@[simp] theorem changePhase_phase (new : Phase) (s : State) :
    (changePhase new s).phases.phase = new := by
  simp only [changePhase]
  split
  · assumption
  · split <;> simp

/-- A change of phase writes the phase and clears the two flags; nothing else of the block. -/
theorem changePhase_phases {new : Phase} {s : State} (h : s.phases.phase ≠ new) :
    (changePhase new s).phases =
      { s.phases with phase := new, atTarget := false, atMark := false } := by
  simp only [changePhase, h, if_false]
  split <;> simp

@[simp] theorem changePhase_causes (new : Phase) (s : State) :
    (changePhase new s).phases.causes = s.phases.causes := by
  by_cases h : s.phases.phase = new
  · simp [changePhase, h]
  · rw [changePhase_phases h]

@[simp] theorem changePhase_origin (new : Phase) (s : State) :
    (changePhase new s).phases.origin = s.phases.origin := by
  by_cases h : s.phases.phase = new
  · simp [changePhase, h]
  · rw [changePhase_phases h]

@[simp] theorem changePhase_epoch (new : Phase) (s : State) :
    (changePhase new s).phases.epoch = s.phases.epoch := by
  by_cases h : s.phases.phase = new
  · simp [changePhase, h]
  · rw [changePhase_phases h]

@[simp] theorem changePhase_target (new : Phase) (s : State) :
    (changePhase new s).phases.target = s.phases.target := by
  by_cases h : s.phases.phase = new
  · simp [changePhase, h]
  · rw [changePhase_phases h]

@[simp] theorem changePhase_mark (new : Phase) (s : State) :
    (changePhase new s).phases.mark = s.phases.mark := by
  by_cases h : s.phases.phase = new
  · simp [changePhase, h]
  · rw [changePhase_phases h]

@[simp] theorem changePhase_seekStart (new : Phase) (s : State) :
    (changePhase new s).phases.seekStart = s.phases.seekStart := by
  by_cases h : s.phases.phase = new
  · simp [changePhase, h]
  · rw [changePhase_phases h]

@[simp] theorem changePhase_seatedCount (new : Phase) (s : State) :
    (changePhase new s).phases.seatedCount = s.phases.seatedCount := by
  by_cases h : s.phases.phase = new
  · simp [changePhase, h]
  · rw [changePhase_phases h]

/-- A change of phase fills the status slot and restarts the status timer; nothing else of the
block. -/
theorem changePhase_line {new : Phase} {s : State} (h : s.phases.phase ≠ new) :
    (changePhase new s).line =
      { s.line with slot := true, statusTimer := statusPeriodMs, tx := s.line.tx.afterFill } := by
  simp only [changePhase, h, if_false]
  split <;> simp [fillSlot]

/-- A report in INIT or UNCONFIGURED is dropped. -/
theorem report_of_dropped {cause : Cause} {s : State} (h : s.phases.phase.dropsReports = true) :
    report cause s = s := by
  simp [report, h]

/-- A cause already in the list changes nothing. -/
theorem report_of_known {cause : Cause} {s : State} (h : cause ∈ s.phases.causes) :
    report cause s = s := by
  simp [report, h]

/-- A new cause joins the list at its end, and the phase is HALTED. -/
theorem report_of_new {cause : Cause} {s : State} (hd : s.phases.phase.dropsReports = false)
    (hc : cause ∉ s.phases.causes) :
    (report cause s).phases.causes = s.phases.causes ++ [cause] ∧
      (report cause s).phases.phase = .halted ∧ (report cause s).line.slot = true := by
  refine ⟨?_, ?_, ?_⟩
  · simp [report, hd, hc]
  · simp [report, hd, hc]
  · simp [report, hd, hc, fillSlot]

/-- Whatever is reported, the epoch, target and mark stand. -/
theorem report_keeps (cause : Cause) (s : State) :
    (report cause s).phases.epoch = s.phases.epoch ∧
      (report cause s).phases.target = s.phases.target ∧
      (report cause s).phases.mark = s.phases.mark ∧
      (report cause s).phases.origin = s.phases.origin := by
  simp only [report]
  split <;> simp

/-- The drive is untouched while the phase stays outside the motion phases and INIT. -/
theorem driveFollowsPhase_rest {old new : Phase} (s : State) (ho : old.isMotion = false)
    (hn : new.isMotion = false) (hi : old ≠ .init) : driveFollowsPhase old new s = s := by
  simp [driveFollowsPhase, ho, hn, hi]

/-- Stopping a drive that stands still does nothing. -/
theorem stopDrive_of_stopped {s : State} (h : s.drive.state = .stopped) : stopDrive s = s := by
  simp [stopDrive, h]

/-- A stopped drive holds its lines at rest. -/
theorem stopDrive_lines {s : State} (h : s.drive.state ≠ .stopped) :
    (stopDrive s).drive =
      { s.drive with
        duty := 0, runEnable := false, brakeReleased := false, state := .stopped,
        dwellTimer := none, settleTimer := some settleMs } := by
  simp [stopDrive, h, checksBrakeSet]

/-- A command's effect on a part to which no reset is applied. -/
@[simp] theorem running_of_free {s : State} {effect : State → State} (h : s.held = false) :
    running s effect = .next (effect s) := by
  simp [running, h]

/-- A part to which a reset is applied takes no event. -/
theorem running_of_held {s : State} {effect : State → State} (h : s.held = true) :
    running s effect = .next s := by
  simp [running, h]

end Sys2Proof.Machine
end

