-- ==== Sys2Proof/Laws/Reports.lean ====
section
/-!
SUPPORT. What a change of phase and a report leave, in the words of Safety.lean.
-/

namespace Sys2Proof.Machine

/-- Blinking touches the lamps alone. -/
theorem updateBlink_inputs (s : State) :
    (updateBlink s).pendant.raise = s.pendant.raise ∧
      (updateBlink s).pendant.lower = s.pendant.lower ∧
      (updateBlink s).pendant.ack = s.pendant.ack ∧
      (updateBlink s).pendant.mark = s.pendant.mark ∧
      (updateBlink s).pendant.present = s.pendant.present ∧
      (updateBlink s).pendant.held = s.pendant.held ∧
      (updateBlink s).pendant.lockout = s.pendant.lockout := by
  simp only [updateBlink]
  split <;> split <;> simp

/-- What no change of phase touches. -/
theorem changePhase_onlyPhaseMoved (s : State) (new : Phase) :
    s.onlyPhaseMoved (changePhase new s) := by
  simp only [State.onlyPhaseMoved, changePhase_peers, changePhase_scanTimer, changePhase_sensors,
    changePhase_guards, changePhase_store, changePhase_resetsApplied, changePhase_freeCount,
    changePhase_pending, true_and]
  by_cases h : s.phases.phase = new
  · simp [changePhase, h]
  · rw [changePhase_line h]
    simp only [changePhase, h, if_false, showPhase]
    simp [updateBlink_inputs]
    split <;> simp

/-- What no report touches. -/
theorem report_onlyPhaseMoved (s : State) (c : Cause) : s.onlyPhaseMoved (report c s) := by
  simp only [report]
  split
  · simp [State.onlyPhaseMoved]
  · have h :=
      changePhase_onlyPhaseMoved
        (s.setPhases { s.phases with causes := s.phases.causes ++ [c] }) .halted
    simp only [State.onlyPhaseMoved, fillSlot] at h ⊢
    simpa using h

/-- A report leaves target, mark, epoch and start progress. -/
theorem report_kept (s : State) (c : Cause) : s.kept (report c s) := by
  simp only [report]
  split
  · simp [State.kept]
  · simp only [State.kept, fillSlot_phases]
    by_cases h : s.phases.phase = .halted
    · simp [changePhase, h]
    · rw [changePhase_phases (by simpa using h)]
      simp

/-- The drive follows a change of phase (R108, R111, R112, R114). -/
theorem changePhase_drive_of_ne (s : State) (new : Phase) (h : s.phases.phase ≠ new) :
    (changePhase new s).drive = driveAfter s.phases.phase new s.drive := by
  simp only [changePhase, h, if_false, showPhase_drive]
  cases hm : new.isMotion <;> cases hq : s.phases.phase.isMotion <;>
    simp [driveFollowsPhase, hm, hq, driveAfter]
  · split <;> simp
  · simp [stopDrive]
    split <;> simp_all [checksBrakeSet]
    intro h1 h2
    simp [h1, Phase.isMotion] at hq
  · simp [startDrive, checksBrakeReleased]
    cases new <;> simp_all [Phase.isMotion, Phase.direction]
  · intro h1 h2
    simp [h1, Phase.isMotion] at hq

/-- A change to the phase that stands moves no line of the drive either. -/
theorem changePhase_drive (s : State) (new : Phase) :
    (changePhase new s).drive =
      if s.phases.phase = new then s.drive else driveAfter s.phases.phase new s.drive := by
  split
  · rename_i h
    simp [changePhase, h]
  · rename_i h
    exact changePhase_drive_of_ne s new h

/-- The phases that drop reports. -/
theorem Phase.dropsReports_iff (p : Phase) :
    p.dropsReports = true ↔ p = .init ∨ p = .unconfigured := by
  cases p <;> simp [Phase.dropsReports]

/-- The cause list after a report (R120). -/
theorem report_causes (s : State) (c : Cause) : (report c s).phases.causes = s.causesWith c := by
  simp only [report, State.causesWith]
  by_cases h : s.phases.phase.dropsReports = true
  · have := (Phase.dropsReports_iff _).1 h
    simp only [h, Bool.true_or, if_true]
    rw [if_pos]
    rcases this with h | h <;> simp [h]
  · have h2 : ¬(s.phases.phase = .init ∨ s.phases.phase = .unconfigured) :=
      fun x => h ((Phase.dropsReports_iff _).2 x)
    by_cases hc : c ∈ s.phases.causes
    · simp [hc]
    · simp [h, hc, not_or.1 h2]

/-- The phase after a report (R120, R64). -/
theorem report_phase (s : State) (c : Cause) (hx : s.haltExact) :
    (report c s).phases.phase = s.phaseWithCause := by
  simp only [report, State.phaseWithCause]
  by_cases h : s.phases.phase.dropsReports = true
  · have := (Phase.dropsReports_iff _).1 h
    simp only [h, Bool.true_or, if_true]
    rw [if_pos this]
  · have h2 : ¬(s.phases.phase = .init ∨ s.phases.phase = .unconfigured) :=
      fun x => h ((Phase.dropsReports_iff _).2 x)
    rw [if_neg h2]
    by_cases hc : c ∈ s.phases.causes
    · simpa [hc] using hx.1.2 (Or.inl (List.ne_nil_of_mem hc))
    · simp [h, hc]

/-- A halted drive stays as it is. -/
theorem driveAfter_halted (d : DriveBlock) : driveAfter .halted .halted d = d := by
  simp [driveAfter, Phase.isMotion]

/-- The drive after a report. -/
theorem report_drive (s : State) (c : Cause) (hx : s.haltExact) (h1 : s.phases.phase ≠ .init)
    (h2 : s.phases.phase ≠ .unconfigured) :
    (report c s).drive = driveAfter s.phases.phase .halted s.drive := by
  have hd : s.phases.phase.dropsReports = false := by
    cases hp : s.phases.phase <;> simp_all [Phase.dropsReports]
  simp only [report, hd]
  by_cases hc : c ∈ s.phases.causes
  · have := hx.1.2 (Or.inl (List.ne_nil_of_mem hc))
    simp [hc, this, driveAfter_halted]
  · simp [hc]
    by_cases hh : s.phases.phase = .halted
    · simp [changePhase, hh, driveAfter_halted]
    · rw [changePhase_drive_of_ne]
      · simp
      · simpa using hh

/-- Blinking follows the set-at-target condition. -/
theorem updateBlink_off {s : State} (h : setAtTarget s = false) :
    (updateBlink s).pendant.blinkTimer = none := by
  simp only [updateBlink, h]
  cases hb : s.pendant.blinkTimer <;> simp [hb]

end Sys2Proof.Machine
end

