-- ==== Sys2Proof/Laws/Commands.lean ====
section
/-!
SUPPORT. What the operations under the single commands do, each said once: a guard line's bit, a column
station, the tests of a service frame, a frame built and received, a command that gives way, and the
entry into SEATED.
-/

namespace Sys2Proof.Machine

/-- Setting one of eight bits leaves the others. -/
theorem setBit8_getLsbD (v : BitVec 8) (i j : Fin 8) (b : Bool) :
    (setBit8 v i b).getLsbD j.val = if j = i then b else v.getLsbD j.val := by
  simp only [setBit8]
  by_cases hij : j = i
  · subst hij
    cases b <;> simp [BitVec.getElem_twoPow]
  · have hv : j.val ≠ i.val := fun h => hij (Fin.ext h)
    cases b <;> simp [BitVec.getElem_twoPow, hij, hv]

theorem isColumnStation_iff (station : BitVec 6) :
    isColumnStation station = true ↔ station ≠ 0#6 ∧ station.toNat ≤ 48 := by
  have h : station = 0#6 ↔ station.toNat = 0 :=
    ⟨fun h => by simp [h], fun h => BitVec.eq_of_toNat_eq (by simpa using h)⟩
  simp only [isColumnStation, Bool.and_eq_true, decide_eq_true_eq, ne_eq, h]
  omega

/-- The frame handed out of the receive queue. -/
theorem setLine_rxQueue (s : State) (rest : List RxFrame) :
    s.setLine { s.line with rxQueue := rest } = s.afterHanding rest := rfl

/-- A service frame that passes the tests of R174 is dealt with. -/
theorem takeService_of_open {s : State} (h : s.serviceOpen) (rest : List RxFrame)
    (accept : State → State) :
    takeService accept (s.afterHanding rest) = accept (s.afterHanding rest) := by
  obtain ⟨hw, hp, hc⟩ := h
  have hr : serviceRefusal (s.afterHanding rest) = none := by
    simp only [serviceRefusal, State.afterHanding, hw, hc]
    rcases hp with hp | hp
    · simp [hp]
    · have : (s.store.active.map (fun c => c.fields.protect != 0#16)).getD false = false := by
        cases ha : s.store.active with
        | none => rfl
        | some c => simp [hp c ha]
      simp [this]
  simp [takeService, hr]

/-- The two halves of each arbitration byte are read back as they were put in. -/
theorem arbitrationByte (a : BitVec 2) (b : BitVec 6) :
    (a ++ b).extractLsb' 6 2 = a ∧ (a ++ b).extractLsb' 0 6 = b := by
  revert a b
  decide +kernel

theorem kindByte (a b : BitVec 4) :
    (a ++ b).extractLsb' 4 4 = a ∧ (a ++ b).extractLsb' 0 4 = b := by
  revert a b
  decide +kernel

/-- A frame built of a kind, a priority that suits it and a payload of its length is good, and gives
back what it was built from (R151, R152, R163). -/
theorem goodFrame_buildFrame {priority : BitVec 2} {station : BitVec 6} {code group : BitVec 4}
    {payload : List Byte} {k : FrameKind} (hk : FrameKind.ofCode code = some k)
    (hl : payload.length = k.payloadBytes) (hs : k.suits priority = true) :
    goodFrame (buildFrame priority station code group payload) false =
      (decodeBody k payload).map (fun body =>
        { priority := priority, station := station, group := group, body := body }) := by
  have hn : ∀ (l : List Byte) (x y : Byte), (l ++ [x, y]).length - 2 = l.length := by simp
  simp only [goodFrame, buildFrame, wordBytes, hn]
  simp [kindByte, arbitrationByte, hk, hl, hs, FrameKind.totalBytes]
  cases k <;> simp [FrameKind.payloadBytes]

theorem displaceable_iff (q : TxCommand) : q.displaceable = true ↔ q.givesWay := by
  obtain ⟨kind, arg, sending⟩ := q
  simp only [TxCommand.displaceable, TxCommand.givesWay, Bool.and_eq_true, Bool.not_eq_true']
  cases kind <;> simp

/-- The newest command that gives way leaves the queue. -/
theorem dropNewest_of_givesWay {before after : List TxCommand} {q : TxCommand} (hq : q.givesWay)
    (ha : ∀ x ∈ after, ¬x.givesWay) :
    dropNewest (before ++ q :: after) = some (before ++ after) := by
  simp only [dropNewest]
  rw [if_pos (by simp [(displaceable_iff q).2 hq])]
  congr 1
  rw [List.reverse_append, List.reverse_cons, List.append_assoc, List.eraseP_append_right]
  · simp [(displaceable_iff q).2 hq]
  · intro x hx
    rw [displaceable_iff]
    exact ha x (by simpa using hx)

/-- Where an ESTOP joins the queue. -/
theorem splitStops (stops others : List TxCommand) (hs : ∀ x ∈ stops, x.kind = .estop)
    (ho : ∀ x ∈ others.head?, x.kind ≠ .estop) :
    (stops ++ others).takeWhile (fun x => x.kind == .estop) = stops ∧
      (stops ++ others).dropWhile (fun x => x.kind == .estop) = others := by
  induction stops with
  | nil =>
    cases others with
    | nil => simp
    | cons y rest =>
      simp only [List.head?_cons, Option.mem_def, Option.some.injEq, forall_eq'] at ho
      simp [ho]
  | cons z rest ih =>
    simp only [List.mem_cons, forall_eq_or_imp] at hs
    have := ih hs.2
    simp_all

theorem evaluateSeating_causes (s : State) :
    (evaluateSeating s).phases.causes = s.phases.causes := by
  simp only [evaluateSeating]
  split
  · split <;> simp
  · rfl

/-- The entry into SEATED ends in LIFT where the seating condition holds (R56). -/
theorem enterSeated_phase (s : State) :
    (enterSeated s).phases.phase = if seatingHolds s then .lift else .seated := by
  simp only [enterSeated, evaluateSeating, changePhase_phase, if_true]
  rw [show ∀ t : State, t.store = s.store → t.peers = s.peers → seatingHolds t = seatingHolds s from
    fun t h1 h2 => by simp [seatingHolds, mismatchFree, h1, h2]]
  · split <;> simp
  · simp
  · simp

end Sys2Proof.Machine
end

