-- ==== Sys2Proof/Laws/Motion.lean ====
section
/-!
SUPPORT. The stall and wrong-direction checks: when each report is due, and how a check takes a sample
that a "brake set" may have overtaken.
-/

namespace Sys2Proof.Machine

/-- When a STALL report is due (R133, R134). -/
theorem stallDue_iff {s : State} {c : ConfigValues} (hc : s.store.active = some c) (h : Nat) :
    stallDue h s = true ↔
      s.checks.stallArmed = true ∧ c.fields.vCreep.toNat ≤ s.follower.lastDemand.speed ∧
        149 ≤ s.follower.stallCounter ∧
        ∃ ref, s.follower.stallRef = some ref ∧ h ≤ ref + 1 ∧ ref ≤ h + 1 := by
  have hcreep : creepSpeed s = c.fields.vCreep.toNat := by simp [creepSpeed, hc]
  simp only [stallDue, stallCounts, hcreep]
  cases s.follower.stallRef with
  | none => simp
  | some ref =>
    simp [heightGap, stallMovement, stallSamples]
    constructor
    · rintro ⟨⟨⟨armed, creep⟩, gap⟩, count⟩
      exact ⟨armed, creep, by omega, by omega, by omega⟩
    · rintro ⟨armed, creep, count, above, below⟩
      exact ⟨⟨⟨armed, creep⟩, by omega⟩, by omega⟩

/-- When a WRONG_DIRECTION report is due (R135). -/
theorem wrongDirectionDue_iff (h : Nat) (s : State) :
    wrongDirectionDue h s = true ↔
      ∃ x, s.checks.extreme = some x ∧
        ((s.checks.watched = some .up ∧ h + 4 ≤ x) ∨
          (s.checks.watched = some .down ∧ x + 4 ≤ h)) := by
  simp only [wrongDirectionDue]
  rcases s.checks.watched with _ | d
  · simp
  · cases d <;> cases s.checks.extreme <;> simp [wrongWay]

/-- A height no further in the watched direction leaves the extreme (R135). -/
theorem wrongDirectionCheck_eq_self {h : Nat} {s : State} (hd : wrongDirectionDue h s = false)
    (hx : extremeAfter h s.checks = s.checks.extreme) : wrongDirectionCheck h s = s := by
  rw [wrongDirectionCheck, hd, hx]
  rfl

/-- With "brake set" first, or none come about, the check takes the sample as it stands (R134, R135). -/
theorem takeCheck_eq_check {brake : BrakeOrder} {start s : State}
    (h : brake = .brakeSetFirst ∨ brakeSetSince start s = false) (due : State → Bool) (cause : Cause)
    (check : State → State) : takeCheck brake start due cause check s = check s := by
  rcases h with h | h <;> simp [takeCheck, h]

/-- A sample overtaken by "brake set" is tested as it was handed, and only reports (R134, R135). -/
theorem takeCheck_eq_report {brake : BrakeOrder} {start s : State} (hb : brake ≠ .brakeSetFirst)
    (h : brakeSetSince start s = true) (due : State → Bool) (cause : Cause)
    (check : State → State) :
    takeCheck brake start due cause check s =
      if due (asHanded brake start s) then report cause s else s := by
  simp [takeCheck, hb, h]

/-- "Brake set" has come about since the handing (R111). -/
theorem brakeSetSince_iff (start s : State) :
    brakeSetSince start s = true ↔
      start.drive.state ≠ .stopped ∧ s.phases.phase ≠ start.phases.phase := by
  simp [brakeSetSince]

end Sys2Proof.Machine
end

