-- ==== Sys2Proof/Laws/Peers.lean ====
section
/-!
SUPPORT. What the Peer Table's operations do, in the words of Safety.lean: reading a report, the clash
check, storing an entry, the enabled lines, the bound of the table, and the conditions that depend on
the table and the configuration alone.
-/

namespace Sys2Proof.Machine

/-! ### Reading a report -/

theorem Phase.ofCode_eq_some (n : Nat) (p : Phase) :
    Phase.ofCode n = some p ↔ phasesByCode[n]? = some p := by
  by_cases h : n < 11
  · have hn : ∀ n : Fin 11, Phase.ofCode n = phasesByCode[n.val]? := by decide
    rw [hn ⟨n, h⟩]
  · have hn : phasesByCode[n]? = none := by simp [phasesByCode]; omega
    rw [hn]
    simp only [Phase.ofCode]
    split <;> first | omega | simp

theorem Cause.ofCode_eq_some (n : Nat) (c : Cause) :
    Cause.ofCode n = some c ↔ n ≠ 0 ∧ causesByCode[n - 1]? = some c := by
  by_cases h : n < 27
  · have hn : ∀ n : Fin 27,
        Cause.ofCode n = if n.val = 0 then none else causesByCode[n.val - 1]? := by decide
    rw [hn ⟨n, h⟩]
    by_cases h0 : n = 0 <;> simp [h0]
  · have hn : causesByCode[n - 1]? = none := by simp [causesByCode]; omega
    rw [hn]
    simp only [Cause.ofCode]
    split <;> first | omega | simp

/-- The halt report of the two halt fields (R2, R4). -/
theorem haltReportOf_eq_some (kind : BitVec 2) (field : BitVec 6) (r : HaltReport) :
    haltReportOf kind field = some r ↔
      ((kind = 0#2 ∧ r = .none) ∨
        (kind = 1#2 ∧ field ≠ 0#6 ∧
          ∃ cause, causesByCode[field.toNat - 1]? = some cause ∧ r = .localCause cause) ∨
        (kind = 2#2 ∧ field ≠ 0#6 ∧ field.toNat ≤ 48 ∧ r = .peerOrigin field.toNat)) := by
  have hf : field = 0#6 ↔ field.toNat = 0 := by rw [BitVec.toNat_eq]; rfl
  have hk : ∀ k : BitVec 2, k = 0#2 ∨ k = 1#2 ∨ k = 2#2 ∨ k = 3#2 := by decide
  rcases hk kind with h | h | h | h <;> subst h
  · rw [show haltReportOf 0#2 field = some .none from rfl, Option.some.injEq]
    constructor
    · rintro rfl
      exact Or.inl ⟨rfl, rfl⟩
    · rintro (⟨-, h⟩ | ⟨h, -⟩ | ⟨h, -⟩)
      · exact h.symm
      · exact absurd h (by decide)
      · exact absurd h (by decide)
  · simp only [haltReportOf, show (1#2 : BitVec 2).toNat = 1 from rfl, Option.map_eq_some_iff,
      Cause.ofCode_eq_some, ne_eq, hf]
    constructor
    · rintro ⟨c, ⟨h0, hc⟩, rfl⟩
      exact Or.inr (Or.inl ⟨trivial, h0, c, hc, rfl⟩)
    · rintro (⟨h, -⟩ | ⟨-, h0, c, hc, rfl⟩ | ⟨h, -⟩)
      · exact absurd h (by decide)
      · exact ⟨c, ⟨h0, hc⟩, rfl⟩
      · exact absurd h (by decide)
  · simp only [haltReportOf, show (2#2 : BitVec 2).toNat = 2 from rfl]
    constructor
    · intro h
      split at h
      · rename_i hc
        have := (isColumnStation_iff _).1 hc
        exact Or.inr (Or.inr ⟨trivial, this.1, this.2, (Option.some.inj h).symm⟩)
      · exact absurd h (by simp)
    · rintro (⟨h, -⟩ | ⟨h, -⟩ | ⟨-, h0, h48, rfl⟩)
      · exact absurd h (by decide)
      · exact absurd h (by decide)
      · rw [if_pos ((isColumnStation_iff _).2 ⟨h0, h48⟩)]
  · simp [haltReportOf]

/-- The entry a stored report gives is the one the frame gives (R2, R4). -/
theorem PeerEntry.givenBy_iff (e : PeerEntry) (station : BitVec 6) (f : StatusFields)
    (c : ConfigValues) (digest : Option Word) :
    e.givenBy station f c digest ↔
      ∃ r, reportOf digest f = some r ∧
        e = entryOf station.toNat c.fields.silenceLimit.toNat r := by
  constructor
  · intro ⟨h1, h2, h3, h4, h5, h6, h7, h8, h9, h10, h11, h12, h13, h14, h15⟩
    rw [← Phase.ofCode_eq_some] at h7
    rw [← haltReportOf_eq_some] at h13
    obtain ⟨st, li, si, pr, sl, ph, he, co, at', ha, ep, dm⟩ := e
    simp only at *
    subst h1 h2 h4 h5 h6 h8 h11 h12 h14
    refine ⟨_, by
      simp only [reportOf, h7, h13]
      rw [if_pos (by simp [h3, h9, h10, maxHeight, maxLoad])], ?_⟩
    simp only [entryOf, PeerEntry.mk.injEq, true_and]
    rw [Bool.eq_iff_iff, h15]
    simp
  · rintro ⟨r, hr, rfl⟩
    simp only [reportOf] at hr
    split at hr
    · rename_i p ha hp hh
      split at hr
      · rename_i hc
        simp only [Option.some.injEq, Bool.and_eq_true, decide_eq_true_eq] at hr hc
        subst hr
        exact ⟨rfl, rfl, hc.1.1, rfl, rfl, rfl, (Phase.ofCode_eq_some _ _).1 hp, rfl, hc.1.2, hc.2,
          rfl, rfl, (haltReportOf_eq_some _ _ _).1 hh, rfl, by simp [entryOf]⟩
      · simp at hr
    · simp at hr

/-! ### Storing -/

/-- The clash check, as R5 words it. -/
theorem positionClaimed_iff (s : State) (c : ConfigValues) (station line : Nat) (side : Side) :
    positionClaimed c s.peers station line side = true ↔ s.positionTaken c station line side := by
  simp [positionClaimed, State.positionTaken, ConfigValues.lineNo, and_assoc]

/-- A stored entry is found under its station. -/
theorem findPeer_storePeer_self (e : PeerEntry) (l : List PeerEntry) :
    findPeer (storePeer e l) e.station = some e := by
  induction l with
  | nil => simp [storePeer, findPeer]
  | cons x xs ih =>
    simp only [storePeer]
    split
    · simp [findPeer]
    · split
      · simp [findPeer]
      · rename_i h
        simp only [findPeer] at ih ⊢
        rw [List.find?_cons_of_neg]
        · exact ih
        · simp only [beq_iff_eq]
          omega

/-- Storing an entry changes no other station's. -/
theorem findPeer_storePeer_of_ne (e : PeerEntry) (l : List PeerEntry) {n : Nat}
    (h : n ≠ e.station) : findPeer (storePeer e l) n = findPeer l n := by
  induction l with
  | nil =>
    simp only [storePeer, findPeer, List.find?_nil]
    rw [List.find?_cons_of_neg]
    · rfl
    · simp only [beq_iff_eq]
      omega
  | cons x xs ih =>
    simp only [storePeer]
    split
    · simp only [findPeer]
      rw [List.find?_cons_of_neg]
      simp only [beq_iff_eq]
      omega
    · split
      · simp only [findPeer]
        rw [List.find?_cons_of_neg, List.find?_cons_of_neg] <;> simp only [beq_iff_eq] <;> omega
      · simp only [findPeer] at ih ⊢
        by_cases hx : x.station = n
        · simp [hx]
        · rw [List.find?_cons_of_neg (by simpa using hx), List.find?_cons_of_neg (by simpa using hx)]
          exact ih

/-! ### Enabled lines -/

theorem ConfigValues.lineEnabled_eq (c : ConfigValues) (k : Nat) :
    c.lineEnabled k = (decide (k < 24) && c.mask.getLsbD k) := by
  simp only [ConfigValues.lineEnabled, ConfigValues.mask, BitVec.getLsbD_append]
  by_cases h : k < 16
  · simp [h, show k < 24 by omega]
  · by_cases h24 : k < 24
    · simp [h, h24, show k - 16 < 8 by omega]
    · simp [h, h24]

theorem ConfigValues.enabledLines_eq (c : ConfigValues) :
    c.enabledLines = (List.range 24).filter c.lineEnabled := by
  simp only [ConfigValues.enabledLines]
  refine List.filter_congr fun k hk => ?_
  rw [ConfigValues.lineEnabled_eq]
  simp [List.mem_range.1 hk]

theorem ConfigValues.mem_enabledLines (c : ConfigValues) (k : Nat) :
    k ∈ c.enabledLines ↔ c.lineEnabled k = true := by
  rw [ConfigValues.enabledLines_eq, List.mem_filter, List.mem_range, and_iff_right_iff_imp,
    ConfigValues.lineEnabled_eq]
  simp +contextual

theorem ConfigValues.groupSize_eq (c : ConfigValues) : c.groupSize = c.expectedSize := by
  simp [ConfigValues.groupSize, ConfigValues.expectedSize, ConfigValues.enabledLines_eq]

theorem ConfigValues.enabledLines_sorted (c : ConfigValues) :
    c.enabledLines.Pairwise (fun a b => a < b) := by
  rw [ConfigValues.enabledLines_eq]
  exact List.Pairwise.filter _ List.pairwise_lt_range

/-! ### The bound of the table -/

/-- The number of a position: its line, and its side on that line. -/
def positionNumber (line : Nat) (side : Side) : Nat := 2 * line + if side = .left then 0 else 1

theorem positionNumber_inj {l m : Nat} {a b : Side}
    (h : positionNumber l a = positionNumber m b) : l = m ∧ a = b := by
  cases a <;> cases b <;> simp [positionNumber] at h <;> simp <;> omega

/-- A sound table holds at most 47 entries (R1). -/
theorem peers_length_le (s : State) (hc : s.configSound) (ht : s.tableSound) :
    s.peers.length ≤ 47 := by
  cases ha : s.store.active with
  | none =>
    simp only [State.tableSound, ha] at ht
    simp [ht]
  | some c =>
    simp only [State.tableSound, State.configSound, ha] at ht hc
    have hline : c.fields.line.toNat ≤ 23 := by
      have := hc.1
      simp only [ConfigValues.inRanges, ConfigFields.toList, fieldRanges, List.zip_cons_cons,
        List.all_cons, Bool.and_eq_true, inRange, decide_eq_true_eq] at this
      exact this.1.2.1.2
    have hnodup : (s.peers.map (fun e => positionNumber e.line e.side)).Nodup := by
      rw [List.Nodup, List.pairwise_map]
      refine ht.1.imp fun {a b} h heq => ?_
      have := positionNumber_inj heq
      have h2 := h.2
      simp [samePosition, this] at h2
    have hsub : s.peers.map (fun e => positionNumber e.line e.side) ⊆
        (List.range 48).erase (positionNumber c.lineNo c.ownSide) := by
      intro n hn
      obtain ⟨e, he, rfl⟩ := List.mem_map.1 hn
      have h := ht.2 e he
      rw [List.Nodup.mem_erase_iff List.nodup_range, List.mem_range]
      refine ⟨fun heq => ?_, ?_⟩
      · have := positionNumber_inj heq
        exact h.2.2.2.1 this.1 this.2
      · have := h.2.2.2.2.1
        simp only [positionNumber]
        split <;> omega
    have hlen := (List.Nodup.subperm hnodup hsub).length_le
    have hown : positionNumber c.lineNo c.ownSide ∈ List.range 48 := by
      rw [List.mem_range]
      simp only [positionNumber, ConfigValues.lineNo]
      split <;> omega
    rw [List.length_map, List.length_erase_of_mem hown, List.length_range] at hlen
    omega

/-- The seated count never exceeds the table's length (R55). -/
theorem countSeated_le (peers : List PeerEntry) : countSeated peers ≤ peers.length :=
  List.countP_le_length

/-! ### Conditions over the table -/

/-- Mismatch-free, over the entries (R20). -/
theorem mismatchFree_iff (s : State) :
    mismatchFree s = true ↔ ∀ e ∈ s.peers, e.presence = .present → e.digestMatch = true := by
  simp only [mismatchFree, presentPeers, List.all_filter, List.all_eq_true, Bool.or_eq_true,
    Bool.not_eq_true', beq_eq_false_iff_ne]
  exact forall₂_congr fun e _ => by rw [ne_eq, imp_iff_not_or]

/-- Completeness with a valid configuration, over the entries (R18, R50). -/
theorem groupComplete_iff {s : State} {c : ConfigValues} (hc : s.store.active = some c) :
    groupComplete s = true ↔
      (presentPeers s.peers).countP (fun e => e.digestMatch) + 1 = c.expectedSize ∧
        ∀ e ∈ s.peers, e.presence = .present → e.digestMatch = true := by
  rw [groupComplete, hc, ← mismatchFree_iff, ← c.groupSize_eq]
  simp [and_comm]

/-- Without a valid configuration no group is complete (R21). -/
theorem groupComplete_of_none {s : State} (hc : s.store.active = none) : groupComplete s = false := by
  rw [groupComplete, hc]

/-- Completeness depends on the table and the configuration alone (R18). -/
theorem groupComplete_congr {s t : State} (hs : t.store = s.store) (hp : t.peers = s.peers) :
    groupComplete t = groupComplete s := by
  simp [groupComplete, mismatchFree, hs, hp]

/-- So does the seating condition (R55). -/
theorem seatingHolds_congr {s t : State} (hs : t.store = s.store) (hp : t.peers = s.peers) :
    seatingHolds t = seatingHolds s := by
  simp [seatingHolds, mismatchFree, hs, hp]

/-- The starting phases, as R10 names them. -/
theorem Phase.isStarting_iff (p : Phase) : p.isStarting = true ↔ p.afterRestart := by
  cases p <;> simp [Phase.isStarting, Phase.afterRestart]

/-- The restarted notice, as R10 words it. -/
theorem isRestart_iff (s : State) (station limit : Nat) (r : PeerReport) :
    isRestart (findPeer s.peers station) r = true ↔ s.seesRestart (entryOf station limit r) := by
  simp only [isRestart, State.seesRestart, entryOf, ← Phase.isStarting_iff]
  cases findPeer s.peers station with
  | none => simp
  | some e => simp [or_assoc]

/-- No item of a status notice touches the table, the configuration or the sensors. -/
theorem epochItem_kept (epoch : BitVec 4) (s : State) :
    (epochItem epoch s).peers = s.peers ∧ (epochItem epoch s).store = s.store ∧
      (epochItem epoch s).sensors = s.sensors := by
  simp only [epochItem]
  split
  · simp
  · split <;> simp

theorem restartedNotice_kept (s : State) :
    (restartedNotice s).peers = s.peers ∧ (restartedNotice s).store = s.store ∧
      (restartedNotice s).sensors = s.sensors := by
  simp only [restartedNotice]
  split <;> simp

theorem mismatchNotice_kept (s : State) :
    (mismatchNotice s).peers = s.peers ∧ (mismatchNotice s).store = s.store ∧
      (mismatchNotice s).sensors = s.sensors := by
  simp only [mismatchNotice]
  split <;> simp

theorem haltItem_kept (station : Nat) (epoch : BitVec 4) (halt : HaltReport) (s : State) :
    (haltItem station epoch halt s).peers = s.peers ∧
      (haltItem station epoch halt s).store = s.store ∧
      (haltItem station epoch halt s).sensors = s.sensors := by
  simp only [haltItem]
  split
  · split <;> simp
  · simp
  · simp

/-! ### The sensor port -/

/-- The arbiter serves the idle port (R92). -/
theorem startTransfer_idle {s : State} (h : s.sensors.port = .idle) :
    startTransfer s = { s with sensors := s.sensors.served } := by
  obtain ⟨peers, scan, ph, fo, ch, se, dr, gu, pe, li, st, ra, fc, pend⟩ := s
  obtain ⟨ct, pr, lr, po, a, b, c, d, e, f, g, i⟩ := se
  simp only at h
  subst h
  cases pr <;> cases lr <;> rfl

end Sys2Proof.Machine
end

