-- ==== Sys2Proof/WellFormed.lean ====
section
/-!
DEFINITION. Which commands the sender may give. The operand types already bound the words, lines,
straps and buttons; the one check left is on RESET.
-/

namespace Sys2Proof

/-- RESET is the release of a POWER, SUPPLY or PIN reset; a reset of kind SERVICE is made by
RESTART alone (R181, R183). -/
def Instr.wellFormed : Instr → Bool
  | .reset kind _ => kind != .service
  | .silenceScanExpiry => true
  | .controlPeriodExpiry => true
  | .positionCompletion _ _ => true
  | .loadCompletion _ _ => true
  | .statusTimerExpiry => true
  | .dwellExpiry => true
  | .settleExpiry => true
  | .demandTimerExpiry => true
  | .blinkTimerExpiry => true
  | .windowTimerExpiry => true
  | .commitCompletion => true
  | .guardActiveEdge _ => true
  | .guardInactiveEdge _ => true
  | .motionButtonPress _ => true
  | .deadManRelease _ => true
  | .ackButtonPress => true
  | .markButtonPress => true
  | .ackOrMarkRelease _ => true
  | .pendantRemoved => true
  | .pendantPlugged => true
  | .frameReceived _ _ _ => true
  | .status => true
  | .raise => true
  | .lower => true
  | .hold => true
  | .estop => true
  | .ack => true
  | .setMark => true
  | .clearMark => true
  | .configWrite => true
  | .tolRewind => true
  | .tolWrite => true
  | .commit => true
  | .restart _ => true
  | .closeSetup => true
  | .attempt => true
  | .attemptSucceeds => true
  | .transmitError => true
  | .lostArbitration => true
  | .resetApplied => true
  | .commandKindUndefined => true

end Sys2Proof
end

