-- ==== Sys2Proof/Tests/Slice0.lean ====
section
/-!
SUPPORT. The model's own tests: the WellFormed check, frames written out bit by bit, the manual's worked
examples, one step of the commands on a small column, and for each statement with hypotheses a state
and operands that meet them (`witness_…`, each clause at the ends of its range).
-/

namespace Sys2Proof.Tests

open Sys2Proof.Machine

/-! ### A small column: station 9 at line 5 left of the manual's six-column set -/

/-- The set of the worked cases (02 section 2.5, 05 sections 5.3 and 5.5), all guard lines enabled and
active high. -/
def config : ConfigValues :=
  { fields :=
      { group := 3#16, line := 5#16, side := 0#16, linesLo := 112#16, linesHi := 0#16,
        vNom := 50#16, vCreep := 5#16, rampStep := 10#16, vDriveMax := 200#16,
        hWork := 12000#16, hRest := 300#16, posZero := 1200#16, posScale := 256#16,
        loadZero := 410#16, loadSpan := 1300#16, guardEnable := 255#16,
        guardPolarity := 255#16, ovlQualify := 0#16, silenceLimit := 5#16, protect := 0#16 }
    tol :=
      { aLocal := 40#16, aGroup := 120#16, wContact := 400#16, wCapacity := 3000#16,
        seekMax := 500#16, driftLimit := 20#16 } }

/-- A group digest, standing in for the one computed at the reset. -/
def digest : Word := 0x1234#16

def peer (station line : Nat) (side : Side) (height : Nat) : PeerEntry :=
  { station := station, line := line, side := side, presence := .present, silence := 5,
    phase := .lift, height := height, contact := true, atTarget := false, halt := .none,
    epoch := 0#4, digestMatch := true }

/-- The five other members, with the heights of the worked case of 02 section 2.5. -/
def peers : List PeerEntry :=
  [peer 7 4 .left 10500, peer 8 4 .right 10508, peer 10 5 .right 10512, peer 11 6 .left 10530,
    peer 12 6 .right 10526]

/-- The column in a phase, at height 10 520 with target 10 600 and contact. -/
def column (phase : Phase) : State :=
  { State.reset with
    peers := peers
    phases :=
      { State.reset.phases with
        phase := phase, target := some 10600
        causes := if phase = .halted then [.estopCommand] else [] }
    follower := { State.reset.follower with prevDemand := 30 }
    sensors :=
      { State.reset.sensors with
        port := .position, height := some 10520, load := some 500, contact := true }
    drive :=
      if phase.isMotion then
        { State.reset.drive with
          state := .running, runEnable := true, brakeReleased := true
          direction := phase.direction.getD .up, demandTimer := some 30 }
      else { State.reset.drive with demandTimer := some 30 }
    pendant := { State.reset.pendant with present := true }
    store :=
      { State.reset.store with
        station := 9#6, active := some config, ownDigest := some digest
        staging := stagingOf (some config), passComplete := true } }

/-- The column with a receive queue. -/
def receiving (queue : List RxFrame) (s : State) : State :=
  { s with line := { s.line with rxQueue := queue } }

/-- The column at a height. -/
def atHeight (h : Nat) (s : State) : State :=
  { s with sensors := { s.sensors with height := some h } }

/-- The column with a mark. -/
def marked (h : Nat) (s : State) : State := { s with phases := { s.phases with mark := some h } }

/-- The column with other members. -/
def among (entries : List PeerEntry) (s : State) : State := { s with peers := entries }

/-- The next state of a command. -/
def after (c : Instr) (s : State) : State :=
  match exec c s with
  | .next t => t
  | .fault _ => s
  | .refused _ => s

def noInputs : SampledInputs := State.resetInputs

def anyOrder : SampleOrder :=
  { takers := .followerChecksRules, takersBeforeReport := 0, stallFirst := true
    brake := .brakeSetFirst }

def command (kind : CommandKind) (arg : Word) : RxFrame := .command 7#6 kind.code arg

/-- A status report of station 10 as it stands in the table. -/
def report10 : StatusFields :=
  { line := 5#5, side := true, phase := 6#4, contact := true, atTarget := false, markSet := false,
    atMark := false, setupOpen := false, height := 10512#15, load := 500#12, haltKind := 0#2,
    causeOrOrigin := 0#6, epoch := 0#4, digest := digest, resetCause := 0#2, configResult := 0#3 }

/-! ### WellFormed -/

theorem test_wellFormed_refuses_serviceReset :
    (Instr.reset .service noInputs).wellFormed = false ∧
      (Instr.reset .supply noInputs).wellFormed = true ∧
      Instr.closeSetup.wellFormed = true := by decide

theorem test_decode_noWord : decodeTableWord 8 0 = none ∧ decodeTableWord 0 255 = none := by decide

/-! ### Frames, bit by bit (R151 to R154) -/

/-- The CRC of the digits 1 to 9, the usual check value of this generator and start. -/
theorem test_crc_checkValue :
    crc16 [0x31#8, 0x32#8, 0x33#8, 0x34#8, 0x35#8, 0x36#8, 0x37#8, 0x38#8, 0x39#8] = 0x29B1#16 := by
  decide +kernel

/-- A RAISE of station 9 in group 3 with target 12 000: byte 0 is 01 001001, byte 1 is 0010 0011, the
payload 0001 0010111011100000 and twelve spare zeros. -/
theorem test_frame_raise :
    (commandFrameBytes 9#6 3#4 .raise 12000#16).take 6 =
      [0b01001001#8, 0b00100011#8, 0b00010010#8, 0b11101110#8, 0b00000000#8, 0b00000000#8] := by
  decide +kernel

/-- A STATUS of station 3 in group 3: line 5 (00101), side R, phase LIFT (0110), CONTACT alone of the
flags, height 10 512 (010100100010000), load 500 (000111110100), LOCAL (01) with cause 17 (010001),
epoch 9 (1001), digest 1234H, reset cause PIN (10), result BUSY (101), five unused zeros. -/
theorem test_frame_status :
    (statusFrameBytes 3#6 3#4
        { report10 with
          haltKind := 1#2, causeOrOrigin := 17#6, epoch := 9#4, resetCause := 2#2,
          configResult := 5#3 }).take 12 =
      [0b10000011#8, 0b00010011#8, 0b00101101#8, 0b10100000#8, 0b10100100#8, 0b01000000#8,
        0b01111101#8, 0b00010100#8, 0b01100100#8, 0b01001000#8, 0b11010010#8, 0b10100000#8] := by
  decide +kernel

/-- A CONFIG_WRITE to station 9 of field 10 with 12 000: 001001, 00001010, 0010111011100000, 00. -/
theorem test_frame_configWrite :
    goodFrame
        (buildFrame 3#2 0#6 8#4 3#4 [0b00100100#8, 0b00101000#8, 0b10111011#8, 0b10000000#8]) false =
      some
        { priority := 3#2, station := 0#6, group := 3#4,
          body := .configWrite 9#6 10#8 12000#16 } := by decide +kernel

/-- A TOL_WRITE to station 9 of 400 (001001, 0000000110010000, 00), and a CLOSE_SETUP to 63. -/
theorem test_frame_tolWrite_closeSetup :
    goodFrame (buildFrame 3#2 0#6 9#4 3#4 [0b00100100#8, 0b00000110#8, 0b01000000#8]) false =
      some { priority := 3#2, station := 0#6, group := 3#4, body := .tolWrite 9#6 400#16 } ∧
    goodFrame (buildFrame 3#2 0#6 12#4 3#4 [0b11111100#8]) false =
      some { priority := 3#2, station := 0#6, group := 3#4, body := .closeSetup 63#6 } := by
  decide +kernel

/-- Broken check bytes, an undefined kind, a wrong length, a priority that does not suit, a framing
error and four bytes are all refused. -/
theorem test_frame_refused :
    goodFrame [0x49#8, 0x23#8, 0x12#8, 0xEE#8, 0#8, 0#8, 0#8, 0#8] false = none ∧
    goodFrame (buildFrame 1#2 9#6 3#4 3#4 [0#8, 0#8, 0#8, 0#8]) false = none ∧
    goodFrame (buildFrame 1#2 9#6 2#4 3#4 [0#8, 0#8, 0#8]) false = none ∧
    goodFrame (buildFrame 2#2 9#6 2#4 3#4 [0#8, 0#8, 0#8, 0#8]) false = none ∧
    goodFrame (commandFrameBytes 9#6 3#4 .hold 0#16) true = none ∧
    goodFrame [0#8, 0#8, 0#8, 0#8] false = none := by decide +kernel

/-! ### The manual's worked examples -/

/-- 02 sections 2.5 and 2.8, raising: r 512 of 1 024, v_follow 25, demand 25, duty 125. -/
theorem test_follow_raising :
    governingRatio config
        (among (peer 3 5 .left 10490 :: peers) (column .lift)) = 512 ∧
      (followSample (among (peer 3 9 .left 10490 :: peers) (column .lift))).follower.lastDemand =
        { speed := 25, direction := some .up, duty := 125 } := by decide +kernel

/-- 02 section 2.8, lowering with a mark: the partner in RETRACT is left out; demand 12, duty 60. -/
theorem test_follow_lowering :
    let low (e : PeerEntry) : PeerEntry := { e with phase := .lower }
    (followSample
      (among
        [low (peer 3 9 .left 8050), low (peer 7 4 .left 8030), low (peer 8 4 .right 8012),
          { peer 10 5 .right 8200 with phase := .retract }, low (peer 11 6 .left 8020),
          { peer 12 6 .right 8100 with phase := .retract }]
        (marked 7900
          { atHeight 8000 (column .lower) with
            phases := { (column .lower).phases with target := some 0, mark := some 7900 }
            follower := { (column .lower).follower with prevDemand := 15 } }))).follower.lastDemand =
      { speed := 12, direction := some .down, duty := 60 } := by decide +kernel

/-- 02 section 2.8, start of a lift: 0 in the dwell, then 10, 20, 30; a lead of 40 stops. -/
theorem test_follow_ramp :
    ramp 10 0 50 = 10 ∧ ramp 10 30 48 = 40 ∧ ramp 10 48 25 = 25 ∧
      creepFloor config 2 = 5 ∧ creepFloor config 0 = 0 ∧
      followRatio 40 38 = 51 ∧ followRatio 40 40 = 0 ∧ followRatio 120 1 = 1015 := by decide

/-- 02 section 2.10: a spread of 235 is not reported, one of 241 is. -/
theorem test_spread :
    let others (h : Nat) : List PeerEntry :=
      [peer 3 4 .left h, peer 4 4 .right 10745, { peer 5 5 .right 10360 with contact := false },
        peer 6 6 .left 10590]
    (spreadCheck (among (others 10510) (atHeight 10600 (column .lift)))).phases.phase = .lift ∧
      (spreadCheck (among (others 10504) (atHeight 10600 (column .lift)))).phases.phase =
        .halted := by decide +kernel

/-- 05 section 5.3: position words scaled. -/
theorem test_scale_position :
    scaleHeight config 28136 = 10521 ∧ scaleHeight config 28137 = 10522 ∧
      scaleHeight config 28138 = 10522 ∧ scaleHeight config 1150 = 0 ∧
      scaleHeight config 65000 = 24000 := by decide +kernel

/-- 05 section 5.5: load words scaled; 4 095 is saturated. -/
theorem test_scale_load :
    storedLoad config 2560#12 = 2729 ∧ storedLoad config 400#12 = 0 ∧
      storedLoad config 3900#12 = 4000 ∧ storedLoad config 4095#12 = 4000 ∧
      loadSaturated 4095#12 = true := by decide +kernel

/-- 01 section 1.5: the neighbour positions of a set on lines 0, 2, 3, 5 and 9. -/
theorem test_neighbours :
    let at' (line : Word) : ConfigValues :=
      { config with fields := { config.fields with line := line, linesLo := 0b1000101101#16 } }
    (allSlots.map (slotPosition (at' 5#16)) =
      [some (5, .right), some (3, .left), some (3, .right), some (9, .left), some (9, .right)]) ∧
    (allSlots.map (slotPosition (at' 0#16)) =
      [some (0, .right), none, none, some (2, .left), some (2, .right)]) ∧
    (allSlots.map (slotPosition (at' 9#16)) =
      [some (9, .right), some (5, .left), some (5, .right), none, none]) ∧
    (at' 5#16).groupSize = 10 := by decide +kernel

/-- A queued command that is not being sent. -/
def queued (kind : CommandKind) : TxCommand := { kind := kind, arg := 0#16, sending := false }

/-- 09 section 9.6: a queue under pressure. -/
theorem test_queue_pressure :
    requestQueue .estop 0#16 ([.raise, .hold, .raise, .setMark].map queued) =
      some ([.estop, .raise, .hold, .raise].map queued) ∧
    requestQueue .hold 0#16 ([.estop, .raise, .hold, .raise].map queued) =
      some ([.estop, .raise, .hold, .hold].map queued) ∧
    requestQueue .ack 0#16 ([.estop, .raise, .hold, .hold].map queued) = none ∧
    requestQueue .hold 0#16 ([.estop, .raise, .hold, .hold].map queued) =
      some ([.estop, .hold, .hold, .hold].map queued) ∧
    requestQueue .estop 0#16 ([.estop, .hold, .hold, .hold].map queued) = none := by decide

/-! ### One step of each command -/

theorem test_reset :
    (after (.reset .supply noInputs) (column .lift)).phases.phase = .init ∧
      (after (.reset .supply noInputs) (column .lift)).store.resetCause = .supply ∧
      (after (.reset .supply noInputs) (column .lift)).peers = [] := by decide

/-- A reset of a column whose record checks makes its values active, the G0 and G1 enables forced. -/
theorem test_reset_latchesRecord :
    activeOf (.written config (recordDigest config)) = some config := by
  have hv : config.inRanges = true ∧ config.related = true := by decide
  have hc : { config with
      fields := { config.fields with guardEnable := forceGuardEnable config.fields.guardEnable } } =
      config := by decide
  rw [activeOf, hv.1, hv.2, hc]
  simp only [decide_true, Bool.and_self, if_true]

theorem test_reset_forcesEnables :
    forceGuardEnable 4#16 = 7#16 ∧ activeOf .erased = none ∧ activeOf .broken = none := by decide

theorem test_silenceScan :
    (after .silenceScanExpiry
      (among [{ peer 10 5 .right 10512 with silence := 1 }] (column .lift))).phases.causes =
      [.peerSilent] := by decide

theorem test_controlPeriod :
    (after .controlPeriodExpiry (column .hold)).sensors.overrunCount = 1 ∧
      (after .controlPeriodExpiry (column .hold)).sensors.positionRequest = true := by decide

/-- Count 28 137 with a clear error bit and a parity bit that makes the ones odd. -/
def goodWord : BitVec 18 := 28137#16 ++ 0b01#2

theorem test_positionCompletion :
    (after (.positionCompletion goodWord anyOrder) (column .hold)).sensors.height = some 10522 ∧
      (after (.positionCompletion (goodWord ^^^ 1#18) anyOrder)
        (column .hold)).sensors.invalidCount = 1 := by decide +kernel

/-- The column asked for creep or more, its stall count one short of 150, `back` units below the highest
height of its motion, and a member at height `low`. -/
def jammed (back low : Nat) : State :=
  let s := among [peer 3 4 .left low] (column .lift)
  { s with
    checks := { s.checks with stallArmed := true, watched := some .up, extreme := some (10520 + back) }
    follower :=
      { s.follower with
        stallRef := some 10520, stallCounter := 149
        lastDemand := { speed := 30, direction := some .up, duty := 150 } } }

/-- R134, R135: a STALL or WRONG_DIRECTION report joins the halt that SPREAD or the other check began
when the sample comes before "brake set", and is not made when "brake set" is first. -/
theorem test_sampleBeforeBrakeSet :
    let causes (order : SampleOrder) (s : State) := (handSample true order s).phases.causes
    let earlier : SampleOrder := { anyOrder with brake := .sampleFirstEarlierDemand }
    causes anyOrder (jammed 0 10279) = [.spread] ∧
      causes { anyOrder with brake := .sampleFirst } (jammed 0 10279) = [.spread] ∧
      causes earlier (jammed 0 10279) = [.spread, .stall] ∧
      causes { anyOrder with brake := .sampleFirst } (jammed 4 10279) =
        [.spread, .wrongDirection] ∧
      causes { earlier with stallFirst := false } (jammed 4 10500) = [.wrongDirection, .stall] ∧
      causes { earlier with takers := .checksFollowerRules } (jammed 4 10500) =
        [.stall, .wrongDirection] ∧
      causes { anyOrder with stallFirst := false } (jammed 4 10500) = [.wrongDirection] ∧
      (handSample true earlier (jammed 4 10279)).checks =
        { stallArmed := false, watched := none, extreme := none, driftRef := none } := by
  decide +kernel

/-- R96: a SENSOR_INVALID report before the follower, and between it and the other takers, when the set
has spread. -/
theorem test_invalidReportAmongTakers :
    let s : State :=
      { jammed 0 10279 with sensors := { (jammed 0 10279).sensors with invalidCount := 3 } }
    (handSample false anyOrder s).phases.causes = [.sensorInvalid] ∧
      (handSample false { anyOrder with takersBeforeReport := 1 } s).phases.causes =
        [.spread, .sensorInvalid] := by decide +kernel

theorem test_loadCompletion :
    let s : State := { column .lift with sensors := { (column .lift).sensors with port := .load } }
    (after (.loadCompletion 4095#12 .contactOverloadStart) s).sensors.overloadRun = 1 ∧
      (after (.loadCompletion 400#12 .contactOverloadStart) s).sensors.contactRun = 1 := by
  decide +kernel

theorem test_statusTimer :
    (after .statusTimerExpiry (column .hold)).line.slot = true ∧
      (after .statusTimerExpiry (column .hold)).line.tx = .waiting := by decide

theorem test_dwell :
    let s : State := changePhase .seek (column .ready)
    s.drive.state = .dwell ∧ (after .dwellExpiry s).drive.state = .running ∧
      (after .dwellExpiry s).checks.stallArmed = true := by decide

theorem test_settle :
    let s : State := changePhase .hold (column .lift)
    s.drive.settleTimer = some 100 ∧ (after .settleExpiry s).checks.driftRef = some 10520 := by
  decide

theorem test_demandTimer :
    (after .demandTimerExpiry (column .lift)).phases.causes = [.driveStarved] ∧
      (after .demandTimerExpiry (column .lift)).drive.brakeReleased = false := by decide

theorem test_blinkTimer :
    let s : State := among [] (arrive false (column .lift))
    (updateBlink s).pendant.blinkTimer = some 250 ∧
      (after .blinkTimerExpiry (updateBlink s)).pendant.lampMoving = false := by decide

theorem test_windowTimer :
    (after .windowTimerExpiry (column .hold)).store.windowOpen = false := by decide

theorem test_commitCompletion :
    let s : State :=
      { column .hold with store := { (column .hold).store with commit := .inFlight config } }
    (after .commitCompletion s).store.result = .committed ∧
      (after .commitCompletion s).store.record = .written config (recordDigest config) :=
  ⟨rfl, rfl⟩

theorem test_guardActiveEdge :
    (after (.guardActiveEdge 0) (column .lift)).phases.causes = [.estopInput] ∧
      (after (.guardActiveEdge 0) (column .lift)).line.queue = [queued .estop] ∧
      (after (.guardActiveEdge 0) (column .lift)).guards.pending = 1#8 := by decide

theorem test_guardInactiveEdge :
    (after (.guardInactiveEdge 0) (after (.guardActiveEdge 0) (column .lift))).guards.levels =
      0#8 := by decide

theorem test_motionButtons :
    (after (.motionButtonPress .raise) (column .hold)).line.queue =
      [{ kind := .raise, arg := 12000#16, sending := false }] ∧
    (after (.deadManRelease .raise)
      (after (.motionButtonPress .raise) (column .hold))).line.queue.length = 2 := by decide

theorem test_sideButtons :
    (after .ackButtonPress (column .halted)).line.queue = [queued .ack] ∧
      (after .markButtonPress (marked 8000 (column .hold))).line.queue = [queued .clearMark] ∧
      (after (.ackOrMarkRelease .ack)
        (after .ackButtonPress (column .halted))).pendant.ack = false := by decide

theorem test_pendantPresence :
    let s : State := after (.motionButtonPress .raise) (column .hold)
    (after .pendantRemoved s).pendant.held = none ∧
      (after .pendantRemoved s).line.queue.length = 2 ∧
      (after .pendantPlugged (after .pendantRemoved s)).pendant.present = true := by decide

/-- A HOLD of station 7 is taken; the own station in a STATUS frame is reported. -/
theorem test_frameReceived :
    (after (.frameReceived (commandFrameBytes 7#6 3#4 .hold 0#16) false true)
      (column .lift)).line.rxQueue = [command .hold 0#16] ∧
    (after (.frameReceived (statusFrameBytes 9#6 3#4 report10) false true)
      (column .lift)).phases.causes = [.duplicateStation] := by decide +kernel

theorem test_status :
    (after .status
      (receiving [.status 10#6 { report10 with height := 10513#15 }] (column .lift))).peers.map
        (fun e => e.height) = [10500, 10508, 10513, 10530, 10526] ∧
    (after .status
      (receiving [.status 13#6 report10] (column .lift))).phases.causes = [.positionClash] := by
  decide +kernel

/-- A mismatched entry on a line not enabled here keeps a whole set incomplete (R18, R50, R52): a column
in LISTEN stays, and one in READY stays too. -/
theorem test_strayKeepsIncomplete :
    let stray : PeerEntry := { peer 14 9 .left 0 with digestMatch := false }
    groupComplete (among (peers ++ [stray]) (column .listen)) = false ∧
      groupComplete (among (peers ++ [{ stray with presence := .lost, silence := 0 }])
        (column .listen)) = true ∧
      (after .status
        (receiving [.status 14#6 { report10 with line := 9#5, digest := 0#16 }]
          (column .ready))).phases.phase = .ready ∧
      (after .status
        (receiving [.status 10#6 report10]
          (among (peers.eraseIdx 2 ++ [stray]) (column .listen)))).phases.phase = .listen ∧
      (after .status
        (receiving [.status 10#6 report10]
          (among (peers.eraseIdx 2) (column .listen)))).phases.phase = .hold := by
  decide +kernel

theorem test_raise :
    (after .raise (receiving [command .raise 12000#16] (column .ready))).phases.phase = .seek ∧
      (after .raise (receiving [command .raise 12000#16] (column .hold))).phases.phase = .lift ∧
      (after .raise (receiving [command .raise 12000#16] (column .hold))).phases.target =
        some 12000 := by decide

theorem test_lower :
    (after .lower (receiving [command .lower 300#16] (column .ready))).phases.phase = .retract ∧
      (after .lower (receiving [command .lower 300#16] (column .seek))).phases.phase = .ready ∧
      (after .lower (receiving [command .lower 300#16] (column .hold))).store.windowOpen = false := by
  decide

theorem test_hold :
    (after .hold (receiving [command .hold 0#16] (column .lift))).phases.phase = .hold ∧
      (after .hold (receiving [command .hold 0#16] (column .lift))).drive.runEnable = false := by
  decide

theorem test_estop :
    (after .estop (receiving [command .estop 0#16] (column .lower))).phases.causes =
      [.estopCommand] ∧
    (after .estop (receiving [command .estop 0#16] (column .listen))).phases.phase = .listen := by
  decide

theorem test_ack :
    (after .ack (receiving [command .ack 0#16] (column .halted))).phases.phase = .hold ∧
      (after .ack (receiving [command .ack 0#16] (column .halted))).phases.epoch = 1#4 ∧
      (after .ack (receiving [command .ack 1#16] (column .halted))).phases.phase = .halted := by
  decide

theorem test_marks :
    (after .setMark (receiving [command .setMark 0#16] (column .hold))).phases.mark =
      some 10520 ∧
    (after .clearMark
      (receiving [command .clearMark 0#16] (marked 8000 (column .hold)))).phases.mark = none ∧
    (after .clearMark
      (receiving [command .clearMark 0#16] (marked 8000 (column .lift)))).phases.mark =
      some 8000 := by decide

theorem test_configWrite :
    (after .configWrite
      (receiving [.configWrite 16#8 4#16] (column .hold))).store.staging.fields.guardEnable =
      some 7#16 ∧
    (after .configWrite (receiving [.configWrite 6#8 9#16] (column .hold))).store.result =
      .refusedRange := by decide +kernel

/-- 10 section 10.4: the pass opens at slot 0, a value out of range leaves the pointer, slot 5
completes. -/
theorem test_tolerancePass :
    let at' (p : Nat) (pass : Bool) : State :=
      { column .hold with
        store := { (column .hold).store with tolPointer := p, passComplete := pass } }
    let s := after .tolWrite (receiving [.tolWrite 40#16] (at' 0 true))
    s.store.tolPointer = 1 ∧ s.store.passComplete = false ∧
      (after .tolWrite (receiving [.tolWrite 5000#16] (at' 3 false))).store.result =
        .refusedRange ∧
      (after .tolWrite (receiving [.tolWrite 20#16] (at' 5 false))).store.passComplete = true ∧
      (after .tolRewind (receiving [.configWrite 21#8 0#16] (at' 3 false))).store.tolPointer =
        0 := by decide +kernel

theorem test_commit :
    (after .commit (receiving [.commit] (column .hold))).store.commit = .inFlight config ∧
      (after .commit (receiving [.commit] (column .hold))).store.writeTimer = some 40 := by
  decide +kernel

theorem test_restart :
    (after (.restart noInputs) (receiving [.restart] (column .hold))).phases.phase = .init ∧
      (after (.restart noInputs) (receiving [.restart] (column .hold))).store.resetCause =
        .service := by decide

theorem test_closeSetup :
    (after .closeSetup (receiving [.closeSetup] (column .hold))).store.windowOpen = false := by
  decide

/-- The column with a RAISE waiting to be sent. -/
def sender : State :=
  { column .hold with
    line := { (column .hold).line with tx := .waiting, queue := [queued .raise] } }

theorem test_attempt :
    (after .attempt sender).line.tx =
      .sendingCommand (commandFrameBytes 9#6 3#4 .raise 0#16) := by decide +kernel

theorem test_attemptSucceeds :
    (after .attemptSucceeds (after .attempt sender)).line.rxQueue = [.command 9#6 1#4 0#16] ∧
      (after .attemptSucceeds (after .attempt sender)).line.queue = [] := by decide +kernel

theorem test_failedAttempts :
    (after .transmitError (after .attempt sender)).line.errors = 1 ∧
      (after .lostArbitration (after .attempt sender)).line.errors = 0 ∧
      (after .lostArbitration (after .attempt sender)).line.queue = [queued .raise] := by
  decide +kernel

theorem test_resetApplied :
    (after .resetApplied (column .lift)).drive.runEnable = false ∧
      after .status (after .resetApplied (column .lift)) = after .resetApplied (column .lift) := by
  decide

/-- R183: a supply dip while the reset line is held; the column starts at the second release. -/
theorem test_resetsOverlap :
    let s := after .resetApplied (after .resetApplied (column .lift))
    let t := after (.reset .pin noInputs) s
    s.resetsApplied = 2 ∧ t.held = true ∧ t.phases.phase = .lift ∧
      (after .resetApplied s).resetsApplied = 2 ∧
      (after (.reset .supply noInputs) t).held = false ∧
      (after (.reset .supply noInputs) t).phases.phase = .init ∧
      (after (.reset .supply noInputs) t).store.resetCause = .supply := by decide

theorem test_commandKindUndefined :
    (after .commandKindUndefined
      (receiving [.command 7#6 8#4 0#16] (column .lift))).line.rxQueue = [] := by decide

/-! ### Witnesses: states and operands that meet the hypotheses of the statements -/

/-- The column's drive dwelling, as a SEEK just entered leaves it. -/
def dwelling : State := changePhase .seek (column .ready)

/-- The column with a lead of one full allowance over a member. -/
def leading (slotHeight : Nat) (phase memberPhase : Phase) : State :=
  among [{ peer 10 5 .right slotHeight with phase := memberPhase }] (atHeight 10520 (column phase))

/-- All the phases. -/
def phases : List Phase :=
  [.init, .unconfigured, .listen, .ready, .seek, .seated, .lift, .hold, .lower, .retract, .halted]

theorem witness_StepRunsFrontCommand :
    ((column .lift).setPending [.status]).pending = .status :: [] := rfl

/-- Held; no timer at 0, the scan timer at 1; and the scan timer and the dwell timer at 0. -/
theorem witness_IdleStepLetsTimePass :
    (column .lift).pending = [] ∧ (column .lift).held = false ∧
      (applyReset (column .lift)).held = true ∧ (applyReset (column .lift)).pending = [] ∧
      (∀ n ∈ [20, 1],
        let s : State := { column .lift with scanTimer := n }
        s.held = false ∧ s.scanTimer ≠ 0 ∧ s.sensors.controlTimer ≠ 0 ∧ s.line.statusTimer ≠ 0 ∧
          s.drive.dwellTimer ≠ some 0 ∧ s.drive.settleTimer ≠ some 0 ∧
          s.drive.demandTimer ≠ some 0 ∧ s.pendant.blinkTimer ≠ some 0 ∧
          s.store.windowTimer ≠ some 0 ∧ s.store.writeTimer ≠ some 0) ∧
      ({ column .lift with scanTimer := 0 } : State).scanTimer = 0 ∧
      ({ dwelling with drive := { dwelling.drive with dwellTimer := some 0 } } :
        State).drive.dwellTimer = some 0 := by
  decide +kernel

/-- One reset applied, none, and two. -/
theorem witness_resetsApplied :
    (applyReset (column .lift)).resetsApplied = 1 ∧ (column .lift).resetsApplied = 0 ∧
      (applyReset (applyReset (column .lift))).resetsApplied = 2 := by decide

theorem witness_EveryCommandAnswersNext :
    (applyReset (column .lift)).held = true ∧
      (∀ kind inputs, Instr.status ≠ .reset kind inputs) ∧ Instr.status ≠ .resetApplied :=
  ⟨rfl, fun _ _ => Instr.noConfusion, by decide⟩

theorem witness_ResetLatchesConfiguration :
    (column .hold).store.commit = .idle ∧
      (startCommit (column .hold)).store.commit ≠ .idle ∧
      activeOf (.written config (recordDigest config)) = some config ∧
      (storeAfterReset .pin noInputs .erased).active = none :=
  ⟨rfl, by decide, test_reset_latchesRecord, rfl⟩

/-- The column with PROTECT 1 and the SETUP strap as given. -/
def protectedColumn (strap : Bool) : State :=
  { column .hold with
    store :=
      { (column .hold).store with
        setupStrap := strap
        active := some { config with fields := { config.fields with protect := 1#16 } } } }

/-- Past the tests of R174 with PROTECT 0, and with PROTECT 1 and the SETUP strap fitted. -/
theorem witness_serviceOpen :
    (column .hold).serviceOpen ∧ (protectedColumn true).serviceOpen :=
  ⟨⟨rfl, Or.inr (by rintro c h; cases h; rfl), rfl⟩, ⟨rfl, Or.inl rfl, rfl⟩⟩

theorem witness_RestartIsServiceReset :
    (receiving [.restart] (column .hold)).held = false ∧
      (receiving [.restart] (column .hold)).line.rxQueue = .restart :: [] ∧
      (receiving [.restart] (column .hold)).serviceOpen :=
  ⟨rfl, rfl, rfl, Or.inr (by rintro c h; cases h; rfl), rfl⟩

theorem witness_SilenceScanAgesEntries :
    (column .lift).held = false ∧
      (∀ e ∈ (among [{ peer 10 5 .right 0 with silence := 2 }] (column .lift)).peers,
        e.presence = .present → 1 < e.silence) := by decide

theorem witness_LostNoticeActsByPhase :
    ∀ p ∈ phases, ∀ n ∈ [0, 1],
      let s := among [{ peer 10 5 .right 0 with silence := n }] (column p)
      s.held = false ∧ s.haltExact ∧ (∃ e ∈ s.peers, e.presence = .present ∧ e.silence ≤ 1) := by
  decide

theorem witness_ControlPeriodPostsRequests :
    ∀ n ∈ [0, 1, 2, 3], ∀ port ∈ [PortState.idle, .position],
      let s : State :=
        { column .lift with
          sensors := { (column .lift).sensors with overrunCount := n, port := port } }
      s.held = false ∧ s.haltExact ∧
        (port == .position) = (s.sensors.positionRequest || s.sensors.port == .position) := by
  decide

theorem witness_TimerExpiriesActOnTheirBlocks :
    (column .hold).held = false ∧ (column .hold).store.windowTimer ≠ none ∧
      (updateBlink (among [] (arrive false (column .lift)))).pendant.blinkTimer ≠ none ∧
      dwelling.held = false ∧ dwelling.drive.state = .dwell ∧ dwelling.drive.dwellTimer ≠ none ∧
      (changePhase .hold (column .lift)).drive.state = .stopped ∧
      (changePhase .hold (column .lift)).drive.settleTimer ≠ none := by decide

theorem witness_CommandsWithoutEventChangeNothing :
    State.reset.held = false ∧ State.reset.drive.dwellTimer = none ∧
      State.reset.drive.settleTimer = none ∧ State.reset.drive.demandTimer = none ∧
      State.reset.pendant.blinkTimer = none ∧
      (closeWindow State.reset).store.windowTimer = none ∧ State.reset.store.commit = .idle ∧
      State.reset.sensors.port ≠ .position ∧ State.reset.sensors.port ≠ .load ∧
      (setLevel 0 true (column .hold)).guards.levels.getLsbD 0 =
        config.fields.guardPolarity.getLsbD 0 ∧
      State.reset.pendant.raise = false ∧ State.reset.pendant.present = false ∧
      State.reset.line.tx.isSending = false ∧ State.reset.line.rxQueue = [] ∧
      (receiving [.closeSetup] (column .hold)).line.rxQueue = .closeSetup :: [] := by decide

theorem witness_DemandTimerStopsDrive :
    ∀ p ∈ phases, (column p).held = false ∧ (column p).haltExact ∧
      (column p).drive.demandTimer ≠ none := by decide

theorem witness_CommitCompletionWritesRecord :
    (startCommit (column .hold)).held = false ∧
      (startCommit (column .hold)).store.commit = .inFlight config := by decide

theorem witness_GuardEdgeLatchesCause :
    ∀ p ∈ phases, p ≠ .init → p ≠ .unconfigured → ∀ i : Fin 8, i ≠ 2 →
      (column p).held = false ∧ (column p).haltExact ∧
        (column p).store.active = some config ∧
        config.fields.guardEnable.getLsbD i.val = true ∧
        (column p).guards.levels.getLsbD i.val ≠ config.fields.guardPolarity.getLsbD i.val := by
  decide

theorem witness_GuardEdgesWithoutReport :
    ∀ i : Fin 8, (column .init).held = false ∧ (column .init).store.active = some config ∧
      State.reset.store.active = none ∧
      (column .init).guards.levels.getLsbD i.val ≠ config.fields.guardPolarity.getLsbD i.val ∧
      (i ≠ 2 → config.fields.guardEnable.getLsbD i.val = true) ∧
      (0#16 : Word).getLsbD i.val = false := by decide

theorem witness_BottomEdgeActsByPhase :
    ∀ p ∈ phases, (column p).held = false ∧ (column p).haltExact ∧
      (column p).store.active = some config ∧ config.fields.guardEnable.getLsbD 2 = true ∧
      (column p).guards.levels.getLsbD 2 ≠ config.fields.guardPolarity.getLsbD 2 ∧
      (column p).sensors.contact = true := by decide

/-- The column with the pendant's levels and lockout as given. -/
def withButtons (raise lower lockout : Bool) (held : Option MotionButton) : State :=
  { column .hold with
    pendant :=
      { (column .hold).pendant with
        raise := raise, lower := lower, lockout := lockout, held := held } }

theorem witness_pendantHeard (raise lower lockout : Bool) (held : Option MotionButton) :
    (withButtons raise lower lockout held).held = false ∧
      (withButtons raise lower lockout held).pendantHeard ∧
      (withButtons raise lower lockout held).pendant.raise = raise ∧
      (withButtons raise lower lockout held).pendant.lower = lower ∧
      (withButtons raise lower lockout held).pendant.lockout = lockout ∧
      (withButtons raise lower lockout held).pendant.held = held ∧
      (withButtons raise lower lockout held).pendant.ack = false ∧
      (withButtons raise lower lockout held).pendant.mark = false ∧
      (withButtons raise lower lockout held).store.active = some config :=
  ⟨rfl, ⟨rfl, by simp [withButtons, column], by simp [withButtons, column]⟩, rfl, rfl, rfl, rfl,
    rfl, rfl, rfl⟩

theorem witness_MotionButtonsRequest_press :
    (withButtons true true true none).pendant.lockout = true ∧
      (withButtons false false false none).pendant.raise = false ∧
      (withButtons false true false (some .lower)).pendant.lower = true ∧
      (withButtons true false false (some .raise)).pendant.lower = false := by decide

theorem witness_MotionButtonsRequest_release :
    (withButtons true true true none).pendant.raise = true ∧
      (withButtons true false false (some .raise)).pendant.held = some .raise ∧
      (withButtons true false false none).pendant.held ≠ some .raise ∧
      (withButtons false true false (some .lower)).pendant.held = some .lower ∧
      (withButtons false true false none).pendant.held ≠ some .lower := by decide

theorem witness_SideButtonsAndPresence :
    (column .init).phases.phase = .init ∧ (column .unconfigured).phases.phase = .unconfigured ∧
      State.reset.pendant.present = false ∧ State.reset.held = false ∧
      (withButtons true false false (some .raise)).pendant.present = true ∧
      (withButtons true false false (some .raise)).pendant.held ≠ none ∧
      (withButtons false false false none).pendant.held = none := by decide

theorem witness_QueueTakesRequests :
    (∃ s : State, s.line.tx = .disabled) ∧ sender.line.tx ≠ .disabled ∧
      ([.estop, .raise, .hold].map queued).length < 4 ∧
      [.estop, .raise, .hold].map queued = [queued .estop] ++ [queued .raise, queued .hold] ∧
      4 ≤ ([.hold, .estop, .ack, .hold].map queued).length ∧
      (∀ x ∈ [.hold, .estop, .ack, .hold].map queued, x.displaceable = false) ∧
      4 ≤ ([.estop, .raise, .hold, .setMark].map queued).length ∧
      [.estop, .raise, .hold, .setMark].map queued =
        [queued .estop] ++ [queued .raise, queued .hold] ++ queued .setMark :: [] :=
  ⟨⟨{ column .hold with line := { (column .hold).line with tx := .disabled } }, rfl⟩, by decide,
    by decide, rfl, by decide, by decide, by decide, rfl⟩

/-- A queued SET_MARK gives way; a SET_MARK being sent, a HOLD and an ACK do not. -/
theorem witness_givesWay :
    (queued .setMark).givesWay ∧ ¬({ queued .setMark with sending := true }).givesWay ∧
      ¬(queued .hold).givesWay ∧ ¬(queued .ack).givesWay := by
  simp [TxCommand.givesWay, queued]

theorem witness_PositionCompletionScales :
    (column .lift).held = false ∧ (column .lift).sensors.port = .position ∧
      (!goodWord.getLsbD 1 && (List.range 18).countP (fun i => goodWord.getLsbD i) % 2 == 1) =
        true ∧
      (!(goodWord ^^^ 1#18).getLsbD 1 &&
        (List.range 18).countP (fun i => (goodWord ^^^ 1#18).getLsbD i) % 2 == 1) = false ∧
      (column .lift).phases.phase ≠ .init := by decide +kernel

/-- A valid and an invalid word, the latter as the second and the third running; a load with an active
configuration and without, and a saturated one. -/
theorem witness_SampleTakersInOrder :
    (∀ n ∈ [1, 2],
      let s : State :=
        { column .lift with sensors := { (column .lift).sensors with invalidCount := n } }
      s.held = false ∧ s.sensors.port = .position) ∧
    (!goodWord.getLsbD 1 && (List.range 18).countP (fun i => goodWord.getLsbD i) % 2 == 1) = true ∧
    (!(goodWord ^^^ 1#18).getLsbD 1 &&
      (List.range 18).countP (fun i => (goodWord ^^^ 1#18).getLsbD i) % 2 == 1) = false ∧
    (∀ store ∈ [(column .lift).store, State.reset.store],
      let s : State :=
        { column .lift with
          sensors := { (column .lift).sensors with port := .load }, store := store }
      s.held = false ∧ s.sensors.port = .load) ∧
    (column .lift).store.active = some config ∧ State.reset.store.active = none ∧
    (4094#12 : BitVec 12) ≠ 4095#12 := by decide +kernel

theorem witness_spreadWithin (phase : Phase) : (column phase).spreadWithin config := by
  have h : (column phase).loadedHeights = [10520, 10500, 10508, 10512, 10530, 10526] := rfl
  intro a ha b hb
  have hc : config.tol.aGroup.toNat = 120 := rfl
  rw [h] at ha hb
  simp only [List.mem_cons, List.not_mem_nil, or_false] at ha hb
  omega

theorem witness_FollowLawDemand :
    (column .lift).store.active = some config ∧ (column .lift).sensors.height = some 10520 ∧
      (column .lift).phases.target = some 10600 ∧ 10520 + 2 < 10600 ∧ 10597 + 2 < 10600 ∧
      lineActive (column .lower) 2 = false ∧
      (marked 10517 (column .lower)).phases.mark = some 10517 ∧ 10517 + 2 < 10520 := by decide

/-- Leads of exactly one allowance, over a neighbour and over a member that is none; an empty slot. -/
theorem witness_LeadAtAllowanceStops :
    config.inRanges = true ∧
      slotState config (leading 10480 .lift .lift).peers .partner =
        .present { peer 10 5 .right 10480 with phase := .lift } ∧
      10480 + config.tol.aLocal.toNat ≤ 10520 ∧ 10400 + config.tol.aGroup.toNat ≤ 10520 ∧
      slotState config (leading 10560 .lower .hold).peers .partner =
        .present { peer 10 5 .right 10560 with phase := .hold } ∧
      10520 + config.tol.aLocal.toNat ≤ 10560 ∧ 10520 + config.tol.aGroup.toNat ≤ 10640 ∧
      slotState config (leading 10480 .lift .lift).peers .nextLeft = .unfilled := by decide +kernel

theorem witness_DemandWithinRampSetsDuty :
    (column .lift).store.active = some config ∧ config.related = true ∧
      (column .hold).phases.phase.isMotion = false ∧
      (column .seek).phases.phase = .seek ∧ (column .seek).sensors.height = some 10520 ∧
      (atHeight 10603 (column .retract)).phases.phase = .retract ∧
      (atHeight 10603 (column .retract)).phases.target = some 10600 ∧ 10600 + 2 < 10603 ∧
      lineActive (column .retract) 2 = false := by decide

/-- A spread of exactly 240, and of 241. -/
theorem witness_SpreadHaltsLoadedColumn :
    (column .lift).haltExact ∧ (column .lift).store.active = some config ∧
      (among [peer 3 4 .left 10280] (column .lift)).spreadWithin config ∧
      ¬(among [peer 3 4 .left 10279] (column .lift)).spreadWithin config := by
  refine ⟨by decide, rfl, ?_, ?_⟩
  · have h : (among [peer 3 4 .left 10280] (column .lift)).loadedHeights = [10520, 10280] := rfl
    intro a ha b hb
    have hc : config.tol.aGroup.toNat = 120 := rfl
    rw [h] at ha hb
    simp only [List.mem_cons, List.not_mem_nil, or_false] at ha hb
    omega
  · intro h
    exact absurd (h 10520 (List.mem_cons_self ..) 10279
      (List.mem_cons_of_mem _ (List.mem_cons_self ..))) (by decide)

/-- Two and three short of the target and of the mark, and a bottom switch that is active. -/
theorem witness_ArrivalActsByPhase :
    (atHeight 10598 (column .lift)).phases.target = some 10600 ∧ 10600 ≤ 10598 + 2 ∧
      10597 + 2 < 10600 ∧ (column .lower).phases.mark = none ∧
      (marked 10600 (column .lower)).phases.mark = some 10600 ∧
      (marked 10601 (column .lower)).phases.mark = some 10601 ∧ 10600 < 10601 ∧
      lineActive (column .lower) 2 = false ∧
      lineActive { column .lower with guards := { levels := 4#8, pending := 0#8 } } 2 = true ∧
      (atHeight 10602 (column .retract)).phases.target = some 10600 ∧ 10602 ≤ 10600 + 2 ∧
      10600 + 2 < 10603 ∧ lineActive (column .retract) 2 = false := by
  decide

theorem witness_MotionChecksByTable :
    let s : State :=
      { column .lift with
        checks :=
          { stallArmed := true, watched := some .up, extreme := some 10524,
            driftRef := some 10500 }
        follower :=
          { (column .lift).follower with
            stallRef := some 10519, stallCounter := 149,
            lastDemand := { speed := 5, direction := some .up, duty := 25 } } }
    s.store.active = some config ∧ s.checks.stallArmed = true ∧
      (column .lift).checks.stallArmed = false ∧ (column .lift).follower.stallRef = none ∧
      (column .lift).follower.lastDemand.speed < config.fields.vCreep.toNat ∧
      config.fields.vCreep.toNat ≤ s.follower.lastDemand.speed ∧ 10519 + 2 ≤ 10521 ∧
      10520 ≤ 10519 + 1 ∧ 148 < 149 ∧ 149 ≤ s.follower.stallCounter ∧
      10520 + 4 ≤ 10524 ∧ 10524 < 10521 + 4 ∧
      10520 ≤ 10500 + config.tol.driftLimit.toNat ∧
      10500 + config.tol.driftLimit.toNat < 10521 ∧ (column .lift).checks.watched = none ∧
      (column .lift).checks.driftRef = none := by decide

/-- The sample overtaken by a "brake set", and not: a stall at its 150th count and one short of it, a
sinking of 4 and of 3. -/
theorem witness_MotionChecksByTable_brakeSet :
    let s := jammed 4 10500
    s.drive.state ≠ .stopped ∧ (report .spread s).phases.phase ≠ s.phases.phase ∧
      (followSample s).phases.phase = s.phases.phase ∧ (column .hold).drive.state = .stopped ∧
      s.checks.stallArmed = true ∧ config.fields.vCreep.toNat ≤ s.follower.lastDemand.speed ∧
      149 ≤ s.follower.stallCounter ∧ s.follower.stallRef = some 10520 ∧
      s.checks.extreme = some 10524 ∧ s.checks.watched = some .up ∧ 10520 + 4 ≤ 10524 ∧
      ¬10521 + 4 ≤ 10524 ∧ ¬149 ≤ 148 := by decide +kernel

theorem witness_PhaseRulesAtSample :
    (column .seek).sensors.contact = true ∧ (column .seek).phases.phase = .seek ∧
      (column .seek).store.active = some config ∧ 10520 ≤ 10020 + config.tol.seekMax.toNat ∧
      10019 + config.tol.seekMax.toNat < 10520 ∧
      (column .init).phases.phase = .init ∧ State.reset.store.active = none ∧
      1 ≤ (column .init).store.station.toNat ∧ (column .init).store.station.toNat ≤ 48 ∧
      ((column .init).phases.positionSeen || true) = true ∧
      (column .init).phases.loadSeen = false ∧
      ([0, 1, 2, 3, 4, 5, 6, 7].foldl (State.lineTaken config)
        (changePhase .listen (column .init))).phases.phase = .listen ∧
      ([0, 1, 2, 3, 4, 5, 6, 7].foldl (State.lineTaken config)
        (changePhase .listen
          { column .init with guards := { levels := 2#8, pending := 0#8 } })).phases.phase ≠
        .listen := by decide

/-- Runs one short of the events: four samples of contact, three of overload. -/
theorem witness_ContactEventsActByPhase :
    ∀ contact, ∀ n ∈ [2, 3], ∀ run ∈ [1, 2], ∀ load ∈ [349, 350, 399, 400, 2999, 3000],
      let s : State :=
        { column .lift with
          sensors :=
            { (column .lift).sensors with
              contact := contact, contactRun := n, overloadRun := run, load := some load } }
      s.haltExact ∧ s.sensors.load = some load ∧ s.sensors.contact = contact := by decide

/-- A change that starts the drive, one that stops it, and ones that do neither. -/
theorem witness_ChangeOfPhaseEffects :
    (column .ready).phases.phase.isMotion = false ∧ Phase.seek.isMotion = true ∧
      (column .lift).phases.phase.isMotion = true ∧ Phase.hold.isMotion = false ∧
      (column .lift).drive.state ≠ .stopped ∧ (column .lower).phases.phase ≠ .retract ∧
      (column .listen).phases.phase ≠ .ready ∧ Phase.ready.isMotion = false := by decide

/-- Loads at and below the contact, release and capacity thresholds 400, 350 and 3 000. -/
theorem witness_LoadCompletionQualifies :
    let s : State := { column .lift with sensors := { (column .lift).sensors with port := .load } }
    s.held = false ∧ s.sensors.port = .load ∧ s.store.active = some config ∧
      s.sensors.load ≠ none ∧ State.reset.sensors.load = none ∧
      storedLoad config 726#12 = 401 ∧ storedLoad config 725#12 = 399 ∧
      storedLoad config 686#12 = 350 ∧ storedLoad config 685#12 = 349 ∧
      storedLoad config 2774#12 = 3001 ∧ storedLoad config 2773#12 = 2999 ∧
      config.tol.wContact.toNat - config.tol.wContact.toNat / 8 = 350 := by decide +kernel

theorem witness_phases :
    ∀ p ∈ phases, (column p).haltExact ∧ (column p).held = false ∧
      (column p).phases.phase = p := by decide

theorem witness_ReportLatchesCause :
    .stall ∉ (column .halted).phases.causes ∧ .estopCommand ∈ (column .halted).phases.causes := by
  decide

/-- A good frame of the column's group, one of another group, and a bad one; a receiver that waits. -/
theorem witness_FramesAreFiltered :
    (sender.line.tx.isSending = false) ∧
      ((after .attempt sender).line.tx.isSending = true) ∧
      goodFrame (statusFrameBytes 9#6 3#4 report10) false =
        some { priority := 2#2, station := 9#6, group := 3#4, body := .status report10 } ∧
      (3#4 = config.fields.group.setWidth 4) ∧ (4#4 ≠ config.fields.group.setWidth 4) ∧
      goodFrame [0#8] false = none ∧ State.reset.line.rxWaitsIdle = true ∧
      isColumnStation 9#6 = true ∧ isColumnStation 49#6 = false := by decide +kernel

theorem witness_ReceiveQueueArrivals :
    (List.replicate 7 RxFrame.commit).length < 8 ∧ 8 ≤ (List.replicate 8 RxFrame.commit).length ∧
      (∀ st f, RxFrame.status st f ∉ List.replicate 8 RxFrame.commit) ∧
      (List.replicate 7 RxFrame.commit ++ [RxFrame.status 10#6 report10]) =
        List.replicate 7 RxFrame.commit ++ .status 10#6 report10 :: [] :=
  ⟨by decide, by decide, by simp, rfl⟩

theorem witness_AttemptSendsHead :
    sender.held = false ∧ sender.line.tx = .waiting ∧ sender.line.queue = queued .raise :: [] ∧
      (column .hold).line.tx ≠ .waiting ∧ (fillSlot (column .hold)).line.tx = .waiting ∧
      (fillSlot (column .hold)).line.queue = [] ∧ (fillSlot (column .hold)).line.slot = true := by
  decide

theorem witness_AttemptOutcomes_success :
    (after .attempt sender).line.queue = [] ++ { queued .raise with sending := true } :: [] ∧
      (after .attempt sender).line.tx =
        .sendingCommand (commandFrameBytes 9#6 3#4 .raise 0#16) ∧
      (after .attempt (fillSlot (column .hold))).line.tx =
        .sendingStatus (statusFrameBytes 9#6 3#4 (statusFields (column .hold))) false := by
  decide +kernel

theorem witness_AttemptOutcomes_failure :
    ∀ n ∈ [0, 6, 7, 8],
      let s : State :=
        { sender with line := { sender.line with tx := .sendingCommand [], errors := n } }
      s.held = false ∧ s.line.tx.isSending = true := by decide

/-- Each value R4 refuses at its nearest, and reports that create, update, move and clash. -/
theorem witness_StatusStoredInTable :
    23 < (24#5 : BitVec 5).toNat ∧ 10 < (11#4 : BitVec 4).toNat ∧
      24000 < (24001#15 : BitVec 15).toNat ∧ 4000 < (4001#12 : BitVec 12).toNat ∧
      26 < (27#6 : BitVec 6).toNat ∧ 48 < (49#6 : BitVec 6).toNat ∧
      (reportOf (some digest) report10).isSome = true ∧
      (reportOf (some digest) { report10 with line := 23#5, height := 24000#15, phase := 10#4 }).isSome =
        true ∧
      (findPeer peers 13).isNone = true ∧ (findPeer peers 10).isSome = true := by decide +kernel

theorem witness_positionTaken :
    (column .lift).positionTaken config 13 5 .right ∧
      ¬(column .lift).positionTaken config 10 5 .right ∧
      ¬(column .lift).positionTaken config 13 9 .right := by
  refine ⟨Or.inr ⟨peer 10 5 .right 10512, ?_, by decide, rfl, rfl⟩, ?_, ?_⟩
  · simp [column, peers]
  · simp [State.positionTaken, column, peers, peer, config, ConfigValues.ownSide]
  · simp [State.positionTaken, column, peers, peer, config, ConfigValues.ownSide]

/-- The entries that the reports of station 10 and of a column just restarted give, at own position of
the old entry and at a free one. -/
theorem witness_givenBy :
    (∃ e : PeerEntry, e.givenBy 10#6 report10 config (some digest) ∧ e.line = 5 ∧ e.side = .right) ∧
    (∃ e : PeerEntry,
      e.givenBy 10#6 { report10 with phase := 2#4, line := 9#5 } config (some digest) ∧
        e.digestMatch = true ∧ (column .lift).seesRestart e) ∧
    (∃ e : PeerEntry, e.givenBy 10#6 { report10 with digest := 0#16 } config (some digest) ∧
        e.digestMatch = false ∧ ¬(column .lift).seesRestart e) := by
  refine ⟨⟨_, (PeerEntry.givenBy_iff _ _ _ _ _).2 ⟨_, rfl, rfl⟩, rfl, rfl⟩,
    ⟨_, (PeerEntry.givenBy_iff _ _ _ _ _).2 ⟨_, rfl, rfl⟩, by decide, ?_⟩,
    ⟨_, (PeerEntry.givenBy_iff _ _ _ _ _).2 ⟨_, rfl, rfl⟩, by decide, ?_⟩⟩
  · exact (isRestart_iff _ _ _ _).1 (by decide)
  · exact fun h => absurd ((isRestart_iff _ _ _ _).2 h) (by decide)

theorem witness_StatusNoticeItems :
    (column .hold).phases.epoch + 1#4 = 1#4 ∧ (column .hold).phases.epoch = 0#4 ∧
      (column .hold).phases.origin = none ∧
      (latchPeerHalt 10 (column .hold)).phases.origin ≠ none ∧
      (receiving [.status 10#6 report10] (column .hold)).line.rxQueue =
        .status 10#6 report10 :: [] ∧
      (10#6 : BitVec 6) ≠ (column .hold).store.station := by decide

/-- Lines 4 and 6 enabled beside own line 5, none below 4 and none above 6; a filled, a LOST and an
empty slot; own AT_TARGET with and without the members'. -/
theorem witness_PeerTableConditions :
    let lost : PeerEntry := { peer 10 5 .right 0 with presence := .lost, silence := 0 }
    let there : PeerEntry := { peer 7 4 .left 0 with atTarget := true }
    (∀ q, q < 24 → (config.lineEnabled q = true ↔ q = 4 ∨ q = 5 ∨ q = 6)) ∧
      config.expectedSize = 6 ∧ groupComplete (column .hold) = true ∧
      groupComplete (among [] (column .hold)) = false ∧
      groupComplete (among (peers ++ [{ peer 14 9 .left 0 with digestMatch := false }])
        (column .hold)) = false ∧
      slotPosition config .partner = some (5, .right) ∧
      slotState config [lost] .partner = .lost lost ∧
      slotState config [] .partner = .unfilled ∧
      slotState config peers .partner = .present (peer 10 5 .right 10512) ∧
      setAtTarget (among [there] (arrive false (column .lift))) = true ∧
      (among [there] (arrive false (column .lift))).pendant.blinkTimer = none ∧
      setAtTarget (among [peer 7 4 .left 0] (arrive false (column .lift))) = false ∧
      State.reset.store.active = none := by decide +kernel

theorem witness_RaiseLowerTakenByPhase (p : Phase) (arg : Word) :
    (receiving [command .raise arg] (column p)).held = false ∧
      (receiving [command .raise arg] (column p)).line.rxQueue = .command 7#6 1#4 arg :: [] ∧
      (receiving [command .lower arg] (column p)).line.rxQueue = .command 7#6 2#4 arg :: [] ∧
      (7#6 : BitVec 6) ≠ 0#6 ∧ (7#6 : BitVec 6).toNat ≤ 48 :=
  ⟨rfl, rfl, rfl, by decide, by decide⟩

theorem witness_HoldAndEstopTakenByPhase :
    ∀ p ∈ phases,
      let s := receiving [command .hold 0#16] (column p)
      let u := receiving [command .estop 0#16] (column p)
      s.haltExact ∧ s.line.rxQueue = .command 7#6 3#4 0#16 :: [] ∧ u.haltExact ∧
        u.line.rxQueue = .command 7#6 4#4 0#16 :: [] := by decide

theorem witness_AckMarksAndDiscards :
    (0#16 : Word).toNat = (column .hold).phases.epoch.toNat ∧
      (16#16 : Word).toNat ≠ (column .hold).phases.epoch.toNat ∧
      (1#6 : BitVec 6) ≠ 0#6 ∧ (48#6 : BitVec 6).toNat ≤ 48 ∧ 48 < (49#6 : BitVec 6).toNat ∧
      8 ≤ (8#4 : BitVec 4).toNat ∧ (column .hold).sensors.contact = true := by decide

theorem witness_AcknowledgementRemovesCauses :
    let s : State :=
      { column .halted with
        phases := { (column .halted).phases with causes := [.estopInput, .drift, .lineFault] }
        guards := { levels := 1#8, pending := 1#8 } }
    s.store.active = some config ∧ .drift ∈ s.phases.causes ∧ .lineFault ∈ s.phases.causes ∧
      lineActive s 0 = true := by decide

/-- A payload of each kind laid out as its body, a wrong length, a wrong priority and an undefined kind;
an acceptable payload has at least one byte. -/
theorem witness_FrameChecksInOrder :
    (FrameBody.status report10).laidOut (bytes80 (report10.onLine 31#5)) ∧
      (FrameBody.command 1#4 0#16).laidOut (bytes32 (1#4 ++ 0#16 ++ 0#12)) ∧
      (FrameBody.configWrite 9#6 10#8 12000#16).laidOut
        [0b00100100#8, 0b00101000#8, 0b10111011#8, 0b10000000#8] ∧
      (FrameBody.tolWrite 9#6 400#16).laidOut [0b00100100#8, 0b00000110#8, 0b01000011#8] ∧
      (FrameBody.closeSetup 63#6).laidOut [0b11111100#8] ∧
      (3#4 : BitVec 4) ∉ [1#4, 2#4, 8#4, 9#4, 10#4, 11#4, 12#4] ∧
      [0#8, 0#8].length ≠ (FrameBody.commit 9#6).row.2.1 ∧ 2#2 ∉ (FrameBody.commit 9#6).row.2.2 :=
  ⟨⟨31#5, rfl⟩, ⟨0#12, rfl⟩, ⟨0#2, by decide⟩, ⟨3#2, 0#8, by decide⟩, ⟨0#2, by decide⟩, by decide,
    by decide, by decide⟩

theorem witness_ServiceTestsInOrder :
    serviceCommand noInputs (.configWrite 21#8 0#16) = some .tolRewind ∧
      serviceCommand noInputs (.configWrite 20#8 0#16) = some .configWrite ∧
      (closeWindow (column .hold)).store.windowOpen = false ∧
      (column .hold).store.windowOpen = true ∧ (column .hold).store.setupStrap = false ∧
      (∃ v, (protectedColumn false).store.active = some v ∧ v.fields.protect ≠ 0#16) ∧
      (startCommit (column .hold)).store.commit ≠ .idle :=
  ⟨rfl, rfl, rfl, rfl, rfl, ⟨_, rfl, by decide⟩, by decide⟩

/-- Field ids at both ends, and the ends of the range of V_NOM. -/
theorem witness_ConfigWriteStagesField :
    fieldRanges.toList[(1#8 : BitVec 8).toNat - 1]? = some (1, 15) ∧
      fieldRanges.toList[(20#8 : BitVec 8).toNat - 1]? = some (0, 1) ∧
      fieldRanges.toList[(6#8 : BitVec 8).toNat - 1]? = some (10, 300) ∧
      22 ≤ (22#8 : BitVec 8).toNat ∧ (9#16 : Word).toNat < 10 ∧ 300 < (301#16 : Word).toNat := by
  decide

theorem witness_TolWriteFillsSlot :
    toleranceRanges.toList[0]? = some (5, 500) ∧ toleranceRanges.toList[5]? = some (2, 100) ∧
      (4#16 : Word).toNat < 5 ∧ 100 < (101#16 : Word).toNat := by decide

/-- The relations a COMMIT checks, met at equality where they allow it. -/
theorem witness_CommitAndCloseSetup :
    let v : ConfigValues :=
      { fields := { config.fields with vCreep := 50#16, vDriveMax := 50#16 }
        tol := { config.tol with aGroup := 40#16, wCapacity := 401#16 } }
    v.fields.vCreep.toNat ≤ v.fields.vNom.toNat ∧ v.fields.vNom.toNat ≤ v.fields.vDriveMax.toNat ∧
      v.tol.aLocal.toNat ≤ v.tol.aGroup.toNat ∧ v.tol.wContact.toNat < v.tol.wCapacity.toNat ∧
      v.mask ≠ 0#24 ∧ v.mask.getLsbD v.fields.line.toNat = true ∧
      (column .hold).store.staging =
        { fields := config.fields.map some, tol := config.tol.map some } ∧
      (column .hold).store.passComplete = true ∧
      none ∈ State.reset.store.staging.fields.toList := by decide

/-- One state that meets the invariants, with a command waiting, steps on. -/
theorem witness_StepKeepsInvariants :
    let s := showPhase ((column .lift).setPending [.hold])
    s.driveSafe ∧ s.haltExact ∧ s.bounded ∧ s.lampsSound ∧ s.arrivalFlagsSound ∧ s.txSound ∧
      s.storeTimersSound ∧ s.latchesAgree ∧ ∃ t, step s = .next t :=
  ⟨by decide, by decide, by decide, by decide, by decide, by decide, by decide, by decide,
    ⟨_, rfl⟩⟩

theorem witness_StepKeepsTableSound :
    let s := showPhase ((column .lift).setPending [.hold])
    s.configSound ∧ s.tableSound ∧ s.bounded ∧ ∃ t, step s = .next t := by
  have ha : (showPhase ((column .lift).setPending [.hold])).store.active = some config := rfl
  refine ⟨?_, ?_, by decide, ⟨_, rfl⟩⟩
  · simp only [State.configSound, ha]
    decide
  · simp only [State.tableSound, ha]
    decide

end Sys2Proof.Tests
end

/-! ## The Peer Table and neighbourhood: proofs of the family's statements -/

namespace Sys2Proof.Machine

/-! ### What the table invariants read

`tableSound` and `configSound` read three items of the state; every command but RESET, RESTART,
STATUS and SILENCE_SCAN_EXPIRY leaves all three. -/

/-- What `tableSound` and `configSound` read: the Peer Table, the active configuration and own
station. -/
def State.table (s : State) : List PeerEntry × Option ConfigValues × BitVec 6 :=
  (s.peers, s.store.active, s.store.station)

theorem table_of_frame {s t : State} (hp : t.peers = s.peers) (hs : t.store = s.store) :
    t.table = s.table := by
  rw [State.table, State.table, hp, hs]

theorem tableSound_congr {s t : State} (h : t.table = s.table) : t.tableSound ↔ s.tableSound := by
  simp only [State.table, Prod.mk.injEq] at h
  obtain ⟨hp, ha, hn⟩ := h
  simp only [State.tableSound, hp, ha, hn]

theorem configSound_congr {s t : State} (h : t.table = s.table) :
    t.configSound ↔ s.configSound := by
  simp only [State.table, Prod.mk.injEq] at h
  obtain ⟨-, ha, -⟩ := h
  simp only [State.configSound, ha]

/-! The setters and the shared operations. -/

@[simp] theorem State.setScanTimer_table (s : State) (x : Nat) :
    (s.setScanTimer x).table = s.table := rfl
@[simp] theorem State.setPhases_table (s : State) (x : PhaseBlock) :
    (s.setPhases x).table = s.table := rfl
@[simp] theorem State.setFollower_table (s : State) (x : FollowerBlock) :
    (s.setFollower x).table = s.table := rfl
@[simp] theorem State.setChecks_table (s : State) (x : CheckBlock) :
    (s.setChecks x).table = s.table := rfl
@[simp] theorem State.setSensors_table (s : State) (x : SensorBlock) :
    (s.setSensors x).table = s.table := rfl
@[simp] theorem State.setDrive_table (s : State) (x : DriveBlock) :
    (s.setDrive x).table = s.table := rfl
@[simp] theorem State.setGuards_table (s : State) (x : GuardBlock) :
    (s.setGuards x).table = s.table := rfl
@[simp] theorem State.setPendant_table (s : State) (x : PendantBlock) :
    (s.setPendant x).table = s.table := rfl
@[simp] theorem State.setLine_table (s : State) (x : LineBlock) :
    (s.setLine x).table = s.table := rfl
@[simp] theorem State.setPending_table (s : State) (x : List Instr) :
    (s.setPending x).table = s.table := rfl
@[simp] theorem State.setResetsApplied_table (s : State) (x : Nat) :
    (s.setResetsApplied x).table = s.table := rfl
@[simp] theorem State.setStore_table {s : State} {x : StoreBlock} (ha : x.active = s.store.active)
    (hn : x.station = s.store.station) : (s.setStore x).table = s.table := by
  simp only [State.table, State.setStore_peers, State.setStore_store, ha, hn]

@[simp] theorem fillSlot_table (s : State) : (fillSlot s).table = s.table := rfl
@[simp] theorem requestCommand_table (kind : CommandKind) (arg : Word) (s : State) :
    (requestCommand kind arg s).table = s.table := table_of_frame (by simp) (by simp)
@[simp] theorem stopDrive_table (s : State) : (stopDrive s).table = s.table :=
  table_of_frame (by simp) (by simp)
@[simp] theorem checksDwellExpired_table (s : State) : (checksDwellExpired s).table = s.table := rfl
@[simp] theorem updateBlink_table (s : State) : (updateBlink s).table = s.table :=
  table_of_frame (by simp) (by simp)
@[simp] theorem changePhase_table (new : Phase) (s : State) : (changePhase new s).table = s.table :=
  table_of_frame (by simp) (by simp)
@[simp] theorem report_table (cause : Cause) (s : State) : (report cause s).table = s.table :=
  table_of_frame (by simp) (by simp)
@[simp] theorem arriveFrame_table (frame : RxFrame) (s : State) :
    (arriveFrame frame s).table = s.table := table_of_frame (by simp) (by simp)
@[simp] theorem enterSeek_table (s : State) : (enterSeek s).table = s.table :=
  table_of_frame (by simp) (by simp)
@[simp] theorem evaluateSeating_table (s : State) : (evaluateSeating s).table = s.table :=
  table_of_frame (by simp) (by simp)
@[simp] theorem enterSeated_table (s : State) : (enterSeated s).table = s.table :=
  table_of_frame (by simp) (by simp)
@[simp] theorem arrive_table (atMark : Bool) (s : State) : (arrive atMark s).table = s.table :=
  table_of_frame (by simp) (by simp)
@[simp] theorem guardEdge_table (i : Fin 8) (s : State) : (guardEdge i s).table = s.table :=
  table_of_frame (by simp) (by simp)
@[simp] theorem enterListenFromInit_table (s : State) : (enterListenFromInit s).table = s.table :=
  table_of_frame (by simp) (by simp)
@[simp] theorem acknowledge_table (s : State) : (acknowledge s).table = s.table :=
  table_of_frame (by simp) (by simp)

/-- An effect that leaves the table leaves it after an `if` as well. -/
theorem table_ite {p : Prop} [Decidable p] {s a b : State} (ha : a.table = s.table)
    (hb : b.table = s.table) : (if p then a else b).table = s.table := by
  split <;> assumption

/-! The timers. -/

theorem dwellExpiry_table (s : State) : (dwellExpiry s).table = s.table := by
  unfold dwellExpiry
  split
  · rfl
  · split <;> simp

theorem settleExpiry_table (s : State) : (settleExpiry s).table = s.table := by
  unfold settleExpiry
  split
  · rfl
  · simp only
    split <;> simp

theorem demandExpiry_table (s : State) : (demandExpiry s).table = s.table := by
  unfold demandExpiry
  split <;> simp

theorem blinkExpiry_table (s : State) : (blinkExpiry s).table = s.table := by
  unfold blinkExpiry
  split <;> simp

@[simp] theorem closeWindow_table (s : State) : (closeWindow s).table = s.table := by
  unfold closeWindow
  split <;> simp

theorem windowExpiry_table (s : State) : (windowExpiry s).table = s.table := by
  unfold windowExpiry
  split
  · rfl
  · simp only
    split <;> simp

theorem completeCommit_table (s : State) : (completeCommit s).table = s.table := by
  unfold completeCommit
  split <;> simp

theorem idleStep_table (s : State) : (idleStep s).table = s.table := by
  unfold idleStep
  split
  · rfl
  · split <;> rfl

/-! The group commands. -/

/-- A command handed from the receive queue leaves the table where its taking does. -/
theorem handCommand_table {kind : CommandKind} {take : Word → State → State} (s : State)
    (h : ∀ arg u, (take arg u).table = u.table) : (handCommand kind take s).table = s.table := by
  unfold handCommand
  split
  · split
    · simp only
      split <;> simp [h]
    · rfl
  · rfl

@[simp] theorem closeWindowOnMotion_table (s : State) :
    (closeWindowOnMotion s).table = s.table := by
  unfold closeWindowOnMotion
  split <;> simp

@[simp] theorem takeTarget_table (arg : Word) (s : State) : (takeTarget arg s).table = s.table := by
  simp [takeTarget]

theorem takeRaise_table (arg : Word) (s : State) : (takeRaise arg s).table = s.table := by
  simp only [takeRaise]
  split <;> simp

theorem takeLower_table (arg : Word) (s : State) : (takeLower arg s).table = s.table := by
  simp only [takeLower]
  split <;> simp

theorem takeHold_table (arg : Word) (s : State) : (takeHold arg s).table = s.table := by
  simp only [takeHold]
  split <;> simp

theorem takeEstop_table (arg : Word) (s : State) : (takeEstop arg s).table = s.table := by
  simp only [takeEstop]
  split <;> simp

theorem takeAck_table (arg : Word) (s : State) : (takeAck arg s).table = s.table := by
  unfold takeAck
  split <;> simp

theorem takeSetMark_table (arg : Word) (s : State) : (takeSetMark arg s).table = s.table := by
  unfold takeSetMark
  split <;> simp

theorem takeClearMark_table (arg : Word) (s : State) : (takeClearMark arg s).table = s.table := by
  unfold takeClearMark
  split
  · split <;> simp
  · rfl

theorem handUndefined_table (s : State) : (handUndefined s).table = s.table := by
  unfold handUndefined
  split
  · split <;> simp
  · rfl

/-! The guard lines and the pendant. -/

theorem activeEdge_table (i : Fin 8) (s : State) : (activeEdge i s).table = s.table := by
  unfold activeEdge
  split
  · rfl
  · split
    · rfl
    · simp only [setLevel]
      split <;> simp

theorem inactiveEdge_table (i : Fin 8) (s : State) : (inactiveEdge i s).table = s.table := by
  unfold inactiveEdge
  split <;> simp [setLevel]

@[simp] theorem setButton_table (button : MotionButton) (pressed : Bool) (s : State) :
    (setButton button pressed s).table = s.table := by
  cases button <;> rfl

@[simp] theorem actOnPress_table (button : MotionButton) (s : State) :
    (actOnPress button s).table = s.table := by
  unfold actOnPress
  split
  · rfl
  · split <;> simp [setHeld]

theorem pressMotion_table (button : MotionButton) (s : State) :
    (pressMotion button s).table = s.table := by
  unfold pressMotion
  split
  · rfl
  · simp only
    split <;> simp

@[simp] theorem actOnRelease_table (button : MotionButton) (s : State) :
    (actOnRelease button s).table = s.table := by
  unfold actOnRelease
  split
  · split <;> simp
  · split <;> simp [setHeld]

theorem releaseMotion_table (button : MotionButton) (s : State) :
    (releaseMotion button s).table = s.table := by
  unfold releaseMotion
  split
  · rfl
  · simp only
    split <;> simp

theorem pressAck_table (s : State) : (pressAck s).table = s.table := by
  unfold pressAck
  split
  · rfl
  · simp only
    split <;> simp

theorem pressMark_table (s : State) : (pressMark s).table = s.table := by
  unfold pressMark
  split
  · rfl
  · simp only
    split <;> simp

theorem releaseSide_table (button : SideButton) (s : State) :
    (releaseSide button s).table = s.table := by
  cases button <;> rfl

theorem removePendant_table (s : State) : (removePendant s).table = s.table := by
  unfold removePendant
  split
  · rfl
  · simp only
    split <;> simp

/-! The Line Interface. -/

@[simp] theorem filterFrame_table (f : LineFrame) (s : State) :
    (filterFrame f s).table = s.table := by
  unfold filterFrame
  split
  case h_1 => exact table_ite rfl (table_ite (by simp) (by simp))
  all_goals exact table_ite (by simp) rfl

theorem receiveFrame_table (bytes : List Byte) (framingError startedAtIdle : Bool) (s : State) :
    (receiveFrame bytes framingError startedAtIdle s).table = s.table := by
  unfold receiveFrame
  split
  · rfl
  · simp only
    split
    · simp
    · split <;> simp

theorem beginAttempt_table (s : State) : (beginAttempt s).table = s.table := by
  unfold beginAttempt
  split
  · split
    · simp
    · split <;> simp
  · rfl

theorem attemptSucceeds_table (s : State) : (attemptSucceeds s).table = s.table := by
  unfold attemptSucceeds
  split
  · simp only
    split <;> simp
  all_goals simp

theorem loseArbitration_table (s : State) : (loseArbitration s).table = s.table := by
  unfold loseArbitration
  split <;> simp

theorem transmitError_table (s : State) : (transmitError s).table = s.table := by
  unfold transmitError
  split
  · simp only
    split <;> simp
  · rfl

/-! The sensors and what a sample drives. -/

@[simp] theorem startTransfer_table (s : State) : (startTransfer s).table = s.table := by
  unfold startTransfer
  exact table_ite (table_ite (by simp) (table_ite (by simp) rfl)) rfl

theorem controlPeriod_table (s : State) : (controlPeriod s).table = s.table := by
  have hover (u : State) : (testOverrun u).table = u.table := by
    unfold testOverrun
    exact table_ite (table_ite (by simp) (by simp)) rfl
  simp [controlPeriod, hover]

@[simp] theorem spreadCheck_table (s : State) : (spreadCheck s).table = s.table := by
  unfold spreadCheck
  split
  · rfl
  · split <;> simp

theorem followSample_table (s : State) : (followSample s).table = s.table := by
  simp only [followSample]
  split <;> simp only [handDemand, State.setDrive_table, State.setFollower_table] <;> split <;> simp

theorem takeCheck_table {brake : BrakeOrder} {start : State} {due : State → Bool} {cause : Cause}
    {check : State → State} (s : State) (h : ∀ u, (check u).table = u.table) :
    (takeCheck brake start due cause check s).table = s.table := by
  unfold takeCheck
  exact table_ite (table_ite (by simp) rfl) (h s)

@[simp] theorem takeStall_table (brake : BrakeOrder) (start : State) (h : Nat) (s : State) :
    (takeStall brake start h s).table = s.table := by
  refine takeCheck_table s fun u => ?_
  unfold stallCheck
  exact table_ite rfl (table_ite (by simp) (table_ite (by simp) (by simp)))

@[simp] theorem takeWrongDirection_table (brake : BrakeOrder) (start : State) (h : Nat)
    (s : State) : (takeWrongDirection brake start h s).table = s.table := by
  refine takeCheck_table s fun u => ?_
  unfold wrongDirectionCheck
  exact table_ite (by simp) (by simp)

@[simp] theorem driftCheck_table (h : Nat) (s : State) : (driftCheck h s).table = s.table := by
  unfold driftCheck
  split
  · rfl
  · split <;> simp

theorem checkMotion_table (valid : Bool) (order : SampleOrder) (start s : State) :
    (checkMotion valid order start s).table = s.table := by
  unfold checkMotion
  split
  · rw [driftCheck_table]
    split <;> simp
  · rfl

@[simp] theorem exitInit_table (atPosition : Bool) (s : State) :
    (exitInit atPosition s).table = s.table := by
  unfold exitInit
  exact table_ite (table_ite (by simp) rfl) (table_ite (by simp) rfl)

theorem positionRules_table (valid : Bool) (s : State) :
    (positionRules valid s).table = s.table := by
  unfold positionRules
  split
  · rw [exitInit_table]
    split <;> simp
  · exact table_ite (by simp) (table_ite (by simp) rfl)
  all_goals rfl

theorem takeSamples_table (valid : Bool) (order : SampleOrder) (start : State)
    (takers : List SampleTaker) (s : State) :
    (takers.foldl (takeSample valid order start) s).table = s.table := by
  induction takers generalizing s with
  | nil => rfl
  | cons taker rest ih =>
    rw [List.foldl_cons, ih]
    cases taker with
    | follower => exact followSample_table s
    | motionChecks => exact checkMotion_table valid order start s
    | phaseRules => exact positionRules_table valid s

theorem completePosition_table (word : BitVec 18) (order : SampleOrder) (s : State) :
    (completePosition word order s).table = s.table := by
  have hinvalid (valid : Bool) (u : State) : (reportInvalid valid u).table = u.table := by
    unfold reportInvalid
    exact table_ite (by simp) rfl
  have hstore (u : State) : (storePosition word u).table = u.table := by
    unfold storePosition
    exact table_ite (by simp) (by simp)
  unfold completePosition
  refine table_ite ?_ rfl
  simp [handSample, takeSamples_table, hinvalid, hstore]

@[simp] theorem loadRules_table (s : State) : (loadRules s).table = s.table := by
  unfold loadRules
  split <;> simp

@[simp] theorem qualifyContact_table (c : ConfigValues) (first : Bool) (s : State) :
    (qualifyContact c first s).table = s.table := by
  have hset (u : State) : (contactSet u).table = u.table := by
    unfold contactSet
    split <;> simp
  have hcleared (u : State) : (contactCleared u).table = u.table := by
    unfold contactCleared
    split <;> simp
  simp only [qualifyContact]
  exact table_ite (by simp)
    (table_ite (table_ite (table_ite (by simp [hcleared]) (by simp)) (by simp))
      (table_ite (table_ite (by simp [hset]) (by simp)) (by simp)))

@[simp] theorem qualifyOverload_table (c : ConfigValues) (s : State) :
    (qualifyOverload c s).table = s.table := by
  unfold qualifyOverload
  exact table_ite (table_ite (by simp) (by simp)) (by simp)

theorem completeLoad_table (word : BitVec 12) (order : LoadOrder) (s : State) :
    (completeLoad word order s).table = s.table := by
  unfold completeLoad
  refine table_ite ?_ rfl
  rw [startTransfer_table]
  split
  · simp
  · cases order <;> simp [takeLoad, storeLoad]

/-! The service frames that make no reset. -/

@[simp] theorem setResult_table (result : ConfigResult) (s : State) :
    (setResult result s).table = s.table := by
  simp [setResult]

/-- A service frame leaves the table where its acceptance does. -/
theorem takeService_table {accept : State → State} (s : State)
    (h : ∀ u, (accept u).table = u.table) : (takeService accept s).table = s.table := by
  unfold takeService
  split
  · simp
  · exact h s

theorem handConfigWrite_table (s : State) : (handConfigWrite s).table = s.table := by
  have hwrite (id : Nat) (value : Word) (u : State) : (writeField id value u).table = u.table := by
    unfold writeField
    split
    · simp
    · split <;> simp
  unfold handConfigWrite
  split
  · exact table_ite rfl (by simp [takeService_table _ (hwrite _ _)])
  · rfl

theorem handTolRewind_table (s : State) : (handTolRewind s).table = s.table := by
  have hrewind (u : State) : (rewind u).table = u.table := by simp [rewind]
  unfold handTolRewind
  split
  · exact table_ite (by simp [takeService_table _ hrewind]) rfl
  · rfl

theorem handTolWrite_table (s : State) : (handTolWrite s).table = s.table := by
  have hwrite (value : Word) (u : State) : (writeTolerance value u).table = u.table := by
    unfold writeTolerance
    split
    · simp
    · exact table_ite (by simp) (by simp)
  unfold handTolWrite
  split
  · simp [takeService_table _ (hwrite _)]
  · rfl

theorem handCommit_table (s : State) : (handCommit s).table = s.table := by
  have hstart (u : State) : (startCommit u).table = u.table := by
    unfold startCommit
    split <;> simp
  unfold handCommit
  split
  · simp [takeService_table _ hstart]
  · rfl

theorem handCloseSetup_table (s : State) : (handCloseSetup s).table = s.table := by
  unfold handCloseSetup
  split <;> simp

end Sys2Proof.Machine

namespace Sys2Proof.Machine

/-! ### What the items of a STATUS frame leave

Phases, causes, lamps, the drive, the guard latches and the transmitter are theirs; the rest
stands. -/

/-- What no notice and no acknowledgement touches. -/
structure NoticeFrame where
  peers : List PeerEntry
  scanTimer : Nat
  sensors : SensorBlock
  store : StoreBlock
  levels : BitVec 8
  queue : List TxCommand
  rxQueue : List RxFrame
  resetsApplied : Nat
  pending : List Instr

def State.noticeFrame (s : State) : NoticeFrame :=
  { peers := s.peers, scanTimer := s.scanTimer, sensors := s.sensors, store := s.store,
    levels := s.guards.levels, queue := s.line.queue, rxQueue := s.line.rxQueue,
    resetsApplied := s.resetsApplied, pending := s.pending }

theorem noticeFrame_of_onlyPhaseMoved {s t : State} (h : s.onlyPhaseMoved t) :
    t.noticeFrame = s.noticeFrame := by
  simp only [State.onlyPhaseMoved] at h
  simp only [State.noticeFrame, h]

theorem groupComplete_of_noticeFrame {s t : State} (h : t.noticeFrame = s.noticeFrame) :
    groupComplete t = groupComplete s :=
  groupComplete_congr (congrArg NoticeFrame.store h) (congrArg NoticeFrame.peers h)

@[simp] theorem State.setPhases_noticeFrame (s : State) (x : PhaseBlock) :
    (s.setPhases x).noticeFrame = s.noticeFrame := rfl
@[simp] theorem fillSlot_noticeFrame (s : State) : (fillSlot s).noticeFrame = s.noticeFrame := rfl
@[simp] theorem changePhase_noticeFrame (new : Phase) (s : State) :
    (changePhase new s).noticeFrame = s.noticeFrame :=
  noticeFrame_of_onlyPhaseMoved (changePhase_onlyPhaseMoved s new)
@[simp] theorem report_noticeFrame (cause : Cause) (s : State) :
    (report cause s).noticeFrame = s.noticeFrame :=
  noticeFrame_of_onlyPhaseMoved (report_onlyPhaseMoved s cause)
@[simp] theorem updateBlink_noticeFrame (s : State) :
    (updateBlink s).noticeFrame = s.noticeFrame := by
  simp [State.noticeFrame]

theorem latchPeerHalt_noticeFrame (station : Nat) (s : State) :
    (latchPeerHalt station s).noticeFrame = s.noticeFrame := by
  unfold latchPeerHalt
  split <;> simp

/-- A removed cause clears a guard latch, takes a drift reference or frees the transmitter
(R126). -/
theorem afterRemoval_noticeFrame (s : State) (cause : Cause) :
    (afterRemoval s cause).noticeFrame = s.noticeFrame := by
  unfold afterRemoval
  split
  · rfl
  · split <;> rfl

theorem afterRemovals_noticeFrame (causes : List Cause) (s : State) :
    (causes.foldl afterRemoval s).noticeFrame = s.noticeFrame := by
  induction causes generalizing s with
  | nil => rfl
  | cons cause rest ih => rw [List.foldl_cons, ih, afterRemoval_noticeFrame]

theorem acknowledge_noticeFrame (s : State) : (acknowledge s).noticeFrame = s.noticeFrame := by
  have hremove (u : State) : (removeCauses u).noticeFrame = u.noticeFrame := by
    simp only [removeCauses, State.setPhases_noticeFrame, afterRemovals_noticeFrame]
  simp only [acknowledge, fillSlot_noticeFrame]
  split <;> simp [hremove]

@[simp] theorem epochItem_noticeFrame (epoch : BitVec 4) (s : State) :
    (epochItem epoch s).noticeFrame = s.noticeFrame := by
  unfold epochItem
  split
  · simp
  · split
    · exact acknowledge_noticeFrame s
    · rfl

@[simp] theorem restartedNotice_noticeFrame (s : State) :
    (restartedNotice s).noticeFrame = s.noticeFrame := by
  unfold restartedNotice
  split <;> simp

@[simp] theorem mismatchNotice_noticeFrame (s : State) :
    (mismatchNotice s).noticeFrame = s.noticeFrame := by
  unfold mismatchNotice
  split <;> simp

@[simp] theorem haltItem_noticeFrame (station : Nat) (epoch : BitVec 4) (halt : HaltReport)
    (s : State) : (haltItem station epoch halt s).noticeFrame = s.noticeFrame := by
  unfold haltItem
  split
  · split
    · exact latchPeerHalt_noticeFrame station s
    · rfl
  all_goals rfl

@[simp] theorem completionNotice_noticeFrame (s : State) :
    (completionNotice s).noticeFrame = s.noticeFrame := by
  unfold completionNotice leaveListen
  split <;> simp

@[simp] theorem evaluateSeating_noticeFrame (s : State) :
    (evaluateSeating s).noticeFrame = s.noticeFrame := by
  unfold evaluateSeating
  split
  · simp only
    split <;> simp
  · rfl

theorem statusNotice_noticeFrame (entry : PeerEntry) (restarted wasComplete : Bool) (s : State) :
    (statusNotice entry restarted wasComplete s).noticeFrame = s.noticeFrame := by
  simp only [statusNotice, evaluateSeating_noticeFrame, apply_ite State.noticeFrame,
    completionNotice_noticeFrame, haltItem_noticeFrame, mismatchNotice_noticeFrame,
    restartedNotice_noticeFrame, epochItem_noticeFrame, ite_self]

theorem statusNotice_table (entry : PeerEntry) (restarted wasComplete : Bool) (s : State) :
    (statusNotice entry restarted wasComplete s).table = s.table :=
  have h := statusNotice_noticeFrame entry restarted wasComplete s
  table_of_frame (congrArg NoticeFrame.peers h) (congrArg NoticeFrame.store h)

end Sys2Proof.Machine

namespace Sys2Proof.Machine

/-! ### A sound entry -/

/-- The items of one entry in `tableSound`, for a column of configuration `c` and station `own`. -/
def PeerEntry.soundFor (e : PeerEntry) (c : ConfigValues) (own : BitVec 6) : Prop :=
  1 ≤ e.station ∧ e.station ≤ 48 ∧ e.station ≠ own.toNat ∧
    (e.line = c.lineNo → e.side ≠ c.ownSide) ∧ e.line ≤ 23 ∧ e.height ≤ maxHeight ∧
    (e.presence = .lost ↔ e.silence = 0) ∧ e.silence ≤ c.fields.silenceLimit.toNat

/-- Two entries in table order, at distinct positions. -/
def PeerEntry.apart (a b : PeerEntry) : Prop := a.station < b.station ∧ samePosition a b = false

theorem tableSound_iff {s : State} {c : ConfigValues} (hc : s.store.active = some c) :
    s.tableSound ↔
      s.peers.Pairwise PeerEntry.apart ∧ ∀ e ∈ s.peers, e.soundFor c s.store.station := by
  rw [State.tableSound, hc]
  rfl

theorem samePosition_eq_false (a b : PeerEntry) :
    samePosition a b = false ↔ (a.line = b.line → a.side ≠ b.side) := by
  simp [samePosition]

theorem samePosition_comm (a b : PeerEntry) : samePosition a b = samePosition b a := by
  simp only [samePosition, Bool.beq_comm]

/-- The entries of a sorted table stand at distinct positions, whichever two are taken. -/
theorem samePosition_of_pairwise {l : List PeerEntry} (h : l.Pairwise PeerEntry.apart)
    {a b : PeerEntry} (ha : a ∈ l) (hb : b ∈ l) (hn : a.station ≠ b.station) :
    samePosition a b = false := by
  have hsym : Std.Symm fun a b : PeerEntry => samePosition a b = false :=
    ⟨fun x y hxy => samePosition_comm x y ▸ hxy⟩
  exact (h.imp And.right).forall ha hb fun hab => hn (congrArg PeerEntry.station hab)

/-! ### Ageing -/

@[simp] theorem agePeer_station (e : PeerEntry) : (agePeer e).station = e.station := by
  unfold agePeer; split <;> [rfl; split <;> rfl]
@[simp] theorem agePeer_line (e : PeerEntry) : (agePeer e).line = e.line := by
  unfold agePeer; split <;> [rfl; split <;> rfl]
@[simp] theorem agePeer_side (e : PeerEntry) : (agePeer e).side = e.side := by
  unfold agePeer; split <;> [rfl; split <;> rfl]
@[simp] theorem agePeer_height (e : PeerEntry) : (agePeer e).height = e.height := by
  unfold agePeer; split <;> [rfl; split <;> rfl]

/-- One scan of an entry, as R12 and R13 word it. -/
theorem agePeer_eq (e : PeerEntry) :
    agePeer e =
      if e.presence = .lost then e
      else if e.silence ≤ 1 then { e with presence := .lost, silence := 0 }
      else { e with silence := e.silence - 1 } := by
  unfold agePeer
  cases e.presence <;> rfl

theorem agePeer_lost_iff {e : PeerEntry} (h : e.presence = .lost ↔ e.silence = 0) :
    (agePeer e).presence = .lost ↔ (agePeer e).silence = 0 := by
  rw [agePeer_eq]
  split
  · exact h
  · split
    · simp
    · simp only [*]
      omega

theorem agePeer_silence_le (e : PeerEntry) : (agePeer e).silence ≤ e.silence := by
  rw [agePeer_eq]
  split
  · exact le_rfl
  · split <;> simp

theorem agePeer_soundFor {e : PeerEntry} {c : ConfigValues} {own : BitVec 6}
    (h : e.soundFor c own) : (agePeer e).soundFor c own := by
  obtain ⟨hlo, hhi, hown, hpos, hline, hheight, hlost, hsilence⟩ := h
  simp only [PeerEntry.soundFor, agePeer_station, agePeer_line, agePeer_side, agePeer_height]
  exact ⟨hlo, hhi, hown, hpos, hline, hheight, agePeer_lost_iff hlost,
    (agePeer_silence_le e).trans hsilence⟩

theorem agePeer_apart {a b : PeerEntry} (h : a.apart b) : (agePeer a).apart (agePeer b) := by
  simpa [PeerEntry.apart, samePosition] using h

/-! ### Storing -/

theorem mem_storePeer {e x : PeerEntry} {l : List PeerEntry} (h : x ∈ storePeer e l) :
    x = e ∨ x ∈ l := by
  induction l with
  | nil => simpa [storePeer] using h
  | cons y ys ih =>
    rw [storePeer] at h
    split at h
    · simpa using h
    · split at h <;> rw [List.mem_cons] at h
      · exact h.imp_right (List.mem_cons_of_mem y)
      · rcases h with rfl | h
        · exact Or.inr (List.mem_cons_self)
        · exact (ih h).imp_right (List.mem_cons_of_mem y)

/-- An entry stored at a position that no other station claims keeps the order and the distinctness
of positions. -/
theorem storePeer_pairwise {e : PeerEntry} {l : List PeerEntry} (hl : l.Pairwise PeerEntry.apart)
    (hfree : ∀ x ∈ l, x.station ≠ e.station → samePosition x e = false) :
    (storePeer e l).Pairwise PeerEntry.apart := by
  induction l with
  | nil => simp [storePeer]
  | cons x xs ih =>
    obtain ⟨hx, hxs⟩ := List.pairwise_cons.1 hl
    have hbehind : ∀ y ∈ x :: xs, e.station < y.station → e.apart y := fun y hy hlt =>
      ⟨hlt, by rw [samePosition_comm]; exact hfree y hy (by omega)⟩
    rw [storePeer]
    split
    case isTrue hlt =>
      refine List.pairwise_cons.2 ⟨fun y hy => hbehind y hy ?_, hl⟩
      rcases List.mem_cons.1 hy with rfl | hy'
      · exact hlt
      · exact hlt.trans (hx y hy').1
    case isFalse hge =>
      split
      case isTrue heq =>
        exact List.pairwise_cons.2
          ⟨fun y hy => hbehind y (List.mem_cons_of_mem x hy) (heq ▸ (hx y hy).1), hxs⟩
      case isFalse hne =>
        refine List.pairwise_cons.2
          ⟨fun y hy => ?_, ih hxs fun y hy => hfree y (List.mem_cons_of_mem x hy)⟩
        rcases mem_storePeer hy with rfl | hy'
        · exact ⟨by omega, hfree x List.mem_cons_self (by omega)⟩
        · exact hx y hy'

/-! ### The table invariants under the commands that write the table -/

/-- Both table invariants. -/
def State.tableAndConfigSound (s : State) : Prop := s.tableSound ∧ s.configSound

theorem tableAndConfigSound_of_table {s t : State} (h : t.table = s.table)
    (hs : s.tableAndConfigSound) : t.tableAndConfigSound :=
  ⟨(tableSound_congr h).2 hs.1, (configSound_congr h).2 hs.2⟩

/-! A reset. -/

/-- Forcing the enables of G0 and G1 keeps GUARD_ENABLE in its range (R171). -/
theorem forceGuardEnable_toNat_le {w : Word} (h : w.toNat ≤ 255) :
    (forceGuardEnable w).toNat ≤ 255 := by
  rw [forceGuardEnable, BitVec.toNat_or]
  exact Nat.le_of_lt_succ (Nat.or_lt_two_pow (n := 8) (by omega) (by decide))

theorem inRanges_forceGuardEnable {c : ConfigValues} (h : c.inRanges = true) :
    ConfigValues.inRanges
      { c with
        fields := { c.fields with guardEnable := forceGuardEnable c.fields.guardEnable } } =
      true := by
  simp only [ConfigValues.inRanges, ConfigFields.toList, fieldRanges, List.zip_cons_cons,
    List.all_cons, Bool.and_eq_true, inRange, decide_eq_true_eq, Nat.zero_le, true_and] at h ⊢
  simp only [h, true_and, and_true]
  exact forceGuardEnable_toNat_le (by simp only [h])

/-- Whatever the record, the configuration a reset makes active is sound (R139, R171). -/
theorem activeOf_sound {record : NvRecord} {c : ConfigValues} (h : activeOf record = some c) :
    c.inRanges = true ∧ c.related = true ∧ c.guardEnabled 0 = true ∧ c.guardEnabled 1 = true := by
  cases record with
  | erased => simp [activeOf] at h
  | broken => simp [activeOf] at h
  | written v digest =>
    simp only [activeOf, Option.ite_none_right_eq_some, Bool.and_eq_true, Option.some.injEq] at h
    obtain ⟨⟨⟨-, hrange⟩, hrelated⟩, rfl⟩ := h
    refine ⟨inRanges_forceGuardEnable hrange, hrelated, ?_, ?_⟩ <;>
      simp [ConfigValues.guardEnabled, forceGuardEnable]

theorem resetPart_sound (kind : ResetKind) (inputs : SampledInputs) (s : State) :
    (resetPart kind inputs s).tableAndConfigSound := by
  have hactive : (resetPart kind inputs s).store.active = activeOf (recordAtReset s) := rfl
  have hpeers : (resetPart kind inputs s).peers = [] := rfl
  cases ha : activeOf (recordAtReset s) with
  | none =>
    simp [State.tableAndConfigSound, State.configSound, State.tableSound, hactive, ha, hpeers]
  | some c =>
    refine ⟨(tableSound_iff (hactive.trans ha)).2 (by simp [hpeers]), ?_⟩
    rw [State.configSound, hactive, ha]
    exact activeOf_sound ha

theorem release_sound (kind : ResetKind) (inputs : SampledInputs) {s : State}
    (h : s.tableAndConfigSound) : (release kind inputs s).tableAndConfigSound := by
  unfold release
  split
  · exact tableAndConfigSound_of_table (by simp) h
  · exact resetPart_sound kind inputs s

theorem handRestart_sound (inputs : SampledInputs) {s : State} (h : s.tableAndConfigSound) :
    (handRestart inputs s).tableAndConfigSound := by
  unfold handRestart
  split
  · unfold takeService
    split
    · exact tableAndConfigSound_of_table (by simp) h
    · exact resetPart_sound _ inputs _
  · exact h

/-! A silence scan. -/

theorem lostNotice_table (s : State) (station : Nat) : (lostNotice s station).table = s.table := by
  unfold lostNotice
  split <;> simp

theorem lostNotices_table (stations : List Nat) (s : State) :
    (stations.foldl lostNotice s).table = s.table := by
  induction stations generalizing s with
  | nil => rfl
  | cons n rest ih => rw [List.foldl_cons, ih, lostNotice_table]

theorem silenceScan_table (s : State) :
    (silenceScan s).table = (s.setPeers (s.peers.map agePeer)).table := by
  simp only [silenceScan, lostNotices_table]
  split
  · rfl
  · exact updateBlink_table _

theorem silenceScan_sound {s : State} (h : s.tableAndConfigSound) :
    (silenceScan s).tableAndConfigSound := by
  refine tableAndConfigSound_of_table (silenceScan_table s) ?_
  obtain ⟨ht, hconf⟩ := h
  refine ⟨?_, hconf⟩
  cases hc : s.store.active with
  | none =>
    simp only [State.tableSound, State.setPeers_store, State.setPeers_peers, hc] at ht ⊢
    simp [ht]
  | some c =>
    obtain ⟨hpair, hsound⟩ := (tableSound_iff hc).1 ht
    refine (tableSound_iff (s := s.setPeers (s.peers.map agePeer)) hc).2 ⟨?_, ?_⟩
    · exact List.pairwise_map.2 (hpair.imp agePeer_apart)
    · simp only [State.setPeers_peers, State.setPeers_store, List.forall_mem_map]
      exact fun e he => agePeer_soundFor (hsound e he)

/-! A STATUS frame. -/

/-- The clash check passed: own position and every other station's are free of the report
(R5, R6). -/
theorem position_free_of_check {s : State} {c : ConfigValues} {station : Nat} {r : PeerReport}
    (hpair : s.peers.Pairwise PeerEntry.apart)
    (hsound : ∀ e ∈ s.peers, e.soundFor c s.store.station)
    (h : ¬(needsClashCheck (findPeer s.peers station) r = true ∧
      s.positionTaken c station r.line r.side)) :
    (r.line = c.lineNo → r.side ≠ c.ownSide) ∧
      ∀ x ∈ s.peers, x.station ≠ station → x.line = r.line → x.side ≠ r.side := by
  by_cases htaken : s.positionTaken c station r.line r.side
  · cases hfind : findPeer s.peers station with
    | none => exact absurd ⟨by rw [hfind]; rfl, htaken⟩ h
    | some old =>
      have hold : old ∈ s.peers := List.mem_of_find?_eq_some hfind
      have hstation : old.station = station := by simpa using List.find?_some hfind
      obtain ⟨-, -, -, hown, -⟩ := hsound old hold
      have hsame : old.line = r.line ∧ old.side = r.side := by
        simpa [needsClashCheck, hfind, htaken] using h
      rw [← hsame.1, ← hsame.2]
      refine ⟨hown, fun x hx hne => (samePosition_eq_false x old).1 ?_⟩
      exact samePosition_of_pairwise hpair hx hold (hstation ▸ hne)
  · rw [State.positionTaken, not_or] at htaken
    obtain ⟨hown, hothers⟩ := htaken
    exact ⟨fun hl hs => hown ⟨hl.symm, hs.symm⟩,
      fun x hx hne hl hs => hothers ⟨x, hx, hne, hl, hs⟩⟩

theorem inRanges_silenceLimit {c : ConfigValues} (h : c.inRanges = true) :
    3 ≤ c.fields.silenceLimit.toNat := by
  simp only [ConfigValues.inRanges, ConfigFields.toList, fieldRanges, List.zip_cons_cons,
    List.all_cons, Bool.and_eq_true, inRange, decide_eq_true_eq] at h
  simp only [h]

/-- The entry of a report in range, from another column and at a position of no other, is sound. -/
theorem entryOf_soundFor {c : ConfigValues} {own station : BitVec 6} {f : StatusFields}
    {digest : Option Word} {r : PeerReport} (hranges : c.inRanges = true)
    (hcolumn : isColumnStation station = true) (hown : station ≠ own)
    (hr : reportOf digest f = some r) (hfree : r.line = c.lineNo → r.side ≠ c.ownSide) :
    (entryOf station.toNat c.fields.silenceLimit.toNat r).soundFor c own := by
  obtain ⟨-, -, hline, -, -, -, -, -, hheight, -⟩ :=
    (PeerEntry.givenBy_iff _ station f c digest).2 ⟨r, hr, rfl⟩
  have hlimit := inRanges_silenceLimit hranges
  simp only [isColumnStation, Bool.and_eq_true, decide_eq_true_eq] at hcolumn
  refine ⟨hcolumn.1, hcolumn.2, fun h => hown (BitVec.eq_of_toNat_eq h), hfree, hline, hheight, ?_,
    le_rfl⟩
  simp only [entryOf, reduceCtorEq, false_iff]
  omega

theorem storeReport_table (c : ConfigValues) (station : Nat) (r : PeerReport) (s : State) :
    (storeReport c station r s).table =
      (s.setPeers
        (storePeer (entryOf station c.fields.silenceLimit.toNat r) s.peers)).table := by
  rw [storeReport, statusNotice_table, updateBlink_table]

theorem takeStatus_sound (station : BitVec 6) (f : StatusFields) {s : State}
    (h : s.tableAndConfigSound) : (takeStatus station f s).tableAndConfigSound := by
  unfold takeStatus
  split
  · exact h
  next c hc =>
  split
  · exact h
  next hother =>
  split
  · exact h
  next r hr =>
  split
  · exact tableAndConfigSound_of_table (report_table _ s) h
  next hcheck =>
  simp only [Bool.or_eq_true, Bool.not_eq_true', not_or, Bool.not_eq_false, beq_iff_eq] at hother
  rw [Bool.and_eq_true, positionClaimed_iff] at hcheck
  obtain ⟨ht, hconf⟩ := h
  obtain ⟨hpair, hsound⟩ := (tableSound_iff hc).1 ht
  obtain ⟨hown, hothers⟩ := position_free_of_check hpair hsound hcheck
  have hranges : c.inRanges = true := by
    rw [State.configSound, hc] at hconf
    exact hconf.1
  refine tableAndConfigSound_of_table (storeReport_table c _ r s)
    ⟨(tableSound_iff (s := s.setPeers (storePeer _ s.peers)) hc).2 ⟨?_, ?_⟩, hconf⟩
  · exact storePeer_pairwise hpair fun x hx hne =>
      (samePosition_eq_false x _).2 (hothers x hx hne)
  · intro e he
    rcases mem_storePeer he with rfl | he
    · exact entryOf_soundFor hranges hother.1 hother.2 hr hown
    · exact hsound e he

theorem handStatus_sound {s : State} (h : s.tableAndConfigSound) :
    (handStatus s).tableAndConfigSound := by
  unfold handStatus
  split
  · exact takeStatus_sound _ _ (tableAndConfigSound_of_table (State.setLine_table s _) h)
  · exact h

/-! ### Every step -/

theorem running_sound {effect : State → State} {s t : State} (ht : running s effect = .next t)
    (heffect : (effect s).tableAndConfigSound) (hs : s.tableAndConfigSound) :
    t.tableAndConfigSound := by
  simp only [running, Host.Outcome.next.injEq] at ht
  subst ht
  split <;> assumption

/-- A command whose effect leaves the table keeps its invariants. -/
theorem running_sound_of_table {effect : State → State} {s t : State}
    (ht : running s effect = .next t) (heffect : (effect s).table = s.table)
    (hs : s.tableAndConfigSound) : t.tableAndConfigSound :=
  running_sound ht (tableAndConfigSound_of_table heffect hs) hs

theorem exec_sound (i : Instr) {s t : State} (hs : s.tableAndConfigSound)
    (ht : exec i s = .next t) : t.tableAndConfigSound := by
  cases i with
  | reset kind inputs =>
    obtain rfl := Host.Outcome.next.inj ht
    exact release_sound kind inputs hs
  | resetApplied =>
    obtain rfl := Host.Outcome.next.inj ht
    exact tableAndConfigSound_of_table rfl hs
  | silenceScanExpiry => exact running_sound ht (silenceScan_sound hs) hs
  | status => exact running_sound ht (handStatus_sound hs) hs
  | restart inputs => exact running_sound ht (handRestart_sound inputs hs) hs
  | controlPeriodExpiry => exact running_sound_of_table ht (controlPeriod_table s) hs
  | positionCompletion word order =>
    exact running_sound_of_table ht (completePosition_table word order s) hs
  | loadCompletion word order =>
    exact running_sound_of_table ht (completeLoad_table word order s) hs
  | statusTimerExpiry => exact running_sound_of_table ht (fillSlot_table s) hs
  | dwellExpiry => exact running_sound_of_table ht (dwellExpiry_table s) hs
  | settleExpiry => exact running_sound_of_table ht (settleExpiry_table s) hs
  | demandTimerExpiry => exact running_sound_of_table ht (demandExpiry_table s) hs
  | blinkTimerExpiry => exact running_sound_of_table ht (blinkExpiry_table s) hs
  | windowTimerExpiry => exact running_sound_of_table ht (windowExpiry_table s) hs
  | commitCompletion => exact running_sound_of_table ht (completeCommit_table s) hs
  | guardActiveEdge line => exact running_sound_of_table ht (activeEdge_table line s) hs
  | guardInactiveEdge line => exact running_sound_of_table ht (inactiveEdge_table line s) hs
  | motionButtonPress button => exact running_sound_of_table ht (pressMotion_table button s) hs
  | deadManRelease button => exact running_sound_of_table ht (releaseMotion_table button s) hs
  | ackButtonPress => exact running_sound_of_table ht (pressAck_table s) hs
  | markButtonPress => exact running_sound_of_table ht (pressMark_table s) hs
  | ackOrMarkRelease button => exact running_sound_of_table ht (releaseSide_table button s) hs
  | pendantRemoved => exact running_sound_of_table ht (removePendant_table s) hs
  | pendantPlugged => exact running_sound_of_table ht (State.setPendant_table s _) hs
  | frameReceived bytes framingError startedAtIdle =>
    exact running_sound_of_table ht (receiveFrame_table bytes framingError startedAtIdle s) hs
  | raise => exact running_sound_of_table ht (handCommand_table s takeRaise_table) hs
  | lower => exact running_sound_of_table ht (handCommand_table s takeLower_table) hs
  | hold => exact running_sound_of_table ht (handCommand_table s takeHold_table) hs
  | estop => exact running_sound_of_table ht (handCommand_table s takeEstop_table) hs
  | ack => exact running_sound_of_table ht (handCommand_table s takeAck_table) hs
  | setMark => exact running_sound_of_table ht (handCommand_table s takeSetMark_table) hs
  | clearMark => exact running_sound_of_table ht (handCommand_table s takeClearMark_table) hs
  | configWrite => exact running_sound_of_table ht (handConfigWrite_table s) hs
  | tolRewind => exact running_sound_of_table ht (handTolRewind_table s) hs
  | tolWrite => exact running_sound_of_table ht (handTolWrite_table s) hs
  | commit => exact running_sound_of_table ht (handCommit_table s) hs
  | closeSetup => exact running_sound_of_table ht (handCloseSetup_table s) hs
  | attempt => exact running_sound_of_table ht (beginAttempt_table s) hs
  | attemptSucceeds => exact running_sound_of_table ht (attemptSucceeds_table s) hs
  | transmitError => exact running_sound_of_table ht (transmitError_table s) hs
  | lostArbitration => exact running_sound_of_table ht (loseArbitration_table s) hs
  | commandKindUndefined => exact running_sound_of_table ht (handUndefined_table s) hs

/-- Settles O56: the commands that write the table (RESET, RESTART, STATUS, SILENCE_SCAN_EXPIRY)
keep both invariants, and every other step leaves what they read. -/
theorem stepKeepsTableSound : Obligations.StepKeepsTableSound := by
  unfold Obligations.StepKeepsTableSound
  intro s t htable hconfig ht
  rw [step] at ht
  split at ht
  · obtain rfl := Host.Outcome.next.inj ht
    exact tableAndConfigSound_of_table (idleStep_table s) ⟨htable, hconfig⟩
  next c rest _ =>
    exact exec_sound c (tableAndConfigSound_of_table (State.setPending_table s _) ⟨htable, hconfig⟩)
      ht

end Sys2Proof.Machine

namespace Sys2Proof.Machine

/-! ### Resets -/

/-- The release of the only reset applied starts the column (R183, R184). -/
theorem release_of_last (kind : ResetKind) (inputs : SampledInputs) {s : State}
    (h : s.resetsApplied ≤ 1) : release kind inputs s = resetPart kind inputs s := by
  rw [release, if_neg (by omega)]

/-- Settles O6: the release starts the column, and `resetPart` writes every block. -/
theorem resetSetsOtherBlocks : Obligations.ResetSetsOtherBlocks := by
  unfold Obligations.ResetSetsOtherBlocks
  intro kind inputs s happlied
  have htx : (resetPart kind inputs s).line.tx =
      if 1 ≤ inputs.station.toNat ∧ inputs.station.toNat ≤ 48 then .idle else .disabled := by
    simp [resetPart, isColumnStation]
  exact ⟨resetPart kind inputs s, congrArg _ (release_of_last kind inputs happlied), rfl, rfl, rfl,
    rfl, rfl, rfl, rfl, htx, rfl, rfl, rfl, rfl, rfl, rfl, rfl, rfl, rfl⟩

/-! ### The silence scan -/

theorem State.kept.refl (s : State) : s.kept s := by simp [State.kept]

theorem State.kept.trans {s t u : State} (hst : s.kept t) (htu : t.kept u) : s.kept u := by
  simp only [State.kept] at hst htu ⊢
  simp only [htu, hst, true_and]

theorem State.onlyPhaseMoved.refl (s : State) : s.onlyPhaseMoved s := by
  simp [State.onlyPhaseMoved]

theorem State.onlyPhaseMoved.trans {s t u : State} (hst : s.onlyPhaseMoved t)
    (htu : t.onlyPhaseMoved u) : s.onlyPhaseMoved u := by
  simp only [State.onlyPhaseMoved] at hst htu ⊢
  simp only [htu, hst, true_and]

theorem changePhase_kept (s : State) (new : Phase) : s.kept (changePhase new s) := by
  by_cases h : s.phases.phase = new
  · simp [changePhase, h, State.kept]
  · simp [State.kept, changePhase_phases h]

theorem updateBlink_onlyPhaseMoved (s : State) : s.onlyPhaseMoved (updateBlink s) := by
  simp [State.onlyPhaseMoved, updateBlink_inputs]

theorem updateBlink_kept (s : State) : s.kept (updateBlink s) := by simp [State.kept]

/-- A LOST notice changes the phase, reports, or does nothing (R63). -/
theorem lostNotice_frame (s : State) (station : Nat) :
    s.onlyPhaseMoved (lostNotice s station) ∧ s.kept (lostNotice s station) := by
  unfold lostNotice
  split
  case h_1 => exact ⟨changePhase_onlyPhaseMoved s _, changePhase_kept s _⟩
  case h_9 | h_10 | h_11 => exact ⟨State.onlyPhaseMoved.refl s, State.kept.refl s⟩
  all_goals exact ⟨report_onlyPhaseMoved s _, report_kept s _⟩

theorem lostNotices_frame (stations : List Nat) (s : State) :
    s.onlyPhaseMoved (stations.foldl lostNotice s) ∧ s.kept (stations.foldl lostNotice s) := by
  induction stations generalizing s with
  | nil => exact ⟨State.onlyPhaseMoved.refl s, State.kept.refl s⟩
  | cons n rest ih =>
    obtain ⟨hmoved, hkept⟩ := lostNotice_frame s n
    obtain ⟨hmoved', hkept'⟩ := ih (lostNotice s n)
    exact ⟨hmoved.trans hmoved', hkept.trans hkept'⟩

/-- The part with its entries aged and the scan timer restarted, before any notice (R12). -/
def State.scanned (s : State) : State := (s.setScanTimer 20).setPeers (s.peers.map agePeer)

theorem silenceScan_eq (s : State) :
    silenceScan s = (lostByScan s.peers).foldl lostNotice
      (if (lostByScan s.peers).isEmpty then s.scanned else updateBlink s.scanned) := rfl

/-- Behind the ageing a scan does nothing but what phases, reports and lamps do. -/
theorem silenceScan_frame (s : State) :
    s.scanned.onlyPhaseMoved (silenceScan s) ∧ s.scanned.kept (silenceScan s) := by
  rw [silenceScan_eq]
  split
  · exact lostNotices_frame _ _
  · obtain ⟨hmoved, hkept⟩ := lostNotices_frame (lostByScan s.peers) (updateBlink s.scanned)
    exact ⟨(updateBlink_onlyPhaseMoved _).trans hmoved, (updateBlink_kept _).trans hkept⟩

theorem lostByScan_eq_nil {peers : List PeerEntry}
    (h : ∀ e ∈ peers, e.presence = .present → 1 < e.silence) : lostByScan peers = [] := by
  simp only [lostByScan, List.map_eq_nil_iff, List.filter_eq_nil_iff, Bool.and_eq_true, beq_iff_eq,
    not_and]
  intro e he hpresent
  simp [agePeer, hpresent, Nat.not_le.2 (h e he hpresent)]

/-- A scan that makes no entry LOST only ages the table. -/
theorem silenceScan_of_none_lost {s : State}
    (h : ∀ e ∈ s.peers, e.presence = .present → 1 < e.silence) : silenceScan s = s.scanned := by
  rw [silenceScan_eq, lostByScan_eq_nil h]
  rfl

/-- Settles O9: the ageing of the table, then notices that only move phase, causes and lamps. -/
theorem silenceScanAgesEntries : Obligations.SilenceScanAgesEntries := by
  unfold Obligations.SilenceScanAgesEntries
  intro s hfree
  obtain ⟨hmoved, hkept⟩ := silenceScan_frame s
  simp only [State.onlyPhaseMoved] at hmoved
  obtain ⟨hpeers, htimer, hsensors, hguards, hstore, -, -, -, -, -, -, -, -, -, -, -, hqueue, hrx,
    -⟩ := hmoved
  refine ⟨silenceScan s, running_of_free hfree, htimer, ?_, hsensors, hguards, hstore, hqueue, hrx,
    hkept, fun hnone => ?_⟩
  · rw [hpeers]
    exact List.map_congr_left fun e _ => agePeer_eq e
  · rw [silenceScan_of_none_lost hnone]
    rfl

end Sys2Proof.Machine

namespace Sys2Proof.Machine

/-! ### Reading a STATUS frame -/

theorem Phase.ofCode_isSome (n : Nat) : (Phase.ofCode n).isSome = true ↔ n ≤ 10 := by
  rw [Option.isSome_iff_exists]
  simp only [Phase.ofCode_eq_some, ← Option.isSome_iff_exists, isSome_getElem?]
  exact Nat.lt_succ_iff

theorem Cause.ofCode_isSome (n : Nat) : (Cause.ofCode n).isSome = true ↔ n ≠ 0 ∧ n ≤ 26 := by
  rw [Option.isSome_iff_exists]
  simp only [Cause.ofCode_eq_some, exists_and_left, ← Option.isSome_iff_exists,
    isSome_getElem?]
  refine and_congr_right fun hn => ?_
  rw [show causesByCode.length = 26 from rfl]
  omega

/-- The values of a STATUS frame all lie in their ranges (R4). -/
def StatusFields.inRange (f : StatusFields) : Prop :=
  f.line.toNat ≤ 23 ∧ f.phase.toNat ≤ 10 ∧ f.haltKind ≠ 3#2 ∧ f.height.toNat ≤ 24000 ∧
    f.load.toNat ≤ 4000 ∧
    (f.haltKind = 1#2 → f.causeOrOrigin ≠ 0#6 ∧ f.causeOrOrigin.toNat ≤ 26) ∧
    (f.haltKind = 2#2 → f.causeOrOrigin ≠ 0#6 ∧ f.causeOrOrigin.toNat ≤ 48)

theorem haltReportOf_isSome (kind : BitVec 2) (field : BitVec 6) :
    (haltReportOf kind field).isSome = true ↔
      kind ≠ 3#2 ∧ (kind = 1#2 → field ≠ 0#6 ∧ field.toNat ≤ 26) ∧
        (kind = 2#2 → field ≠ 0#6 ∧ field.toNat ≤ 48) := by
  have hzero : field ≠ 0#6 ↔ field.toNat ≠ 0 := by rw [ne_eq, BitVec.toNat_eq]; rfl
  have hkinds : ∀ k : BitVec 2, k = 0#2 ∨ k = 1#2 ∨ k = 2#2 ∨ k = 3#2 := by decide
  rcases hkinds kind with rfl | rfl | rfl | rfl
  · simp [haltReportOf]
  · simp [haltReportOf, Cause.ofCode_isSome, hzero]
  · simp [haltReportOf, ← isColumnStation_iff]
  · simp [haltReportOf]

/-- A frame is read exactly when its values lie in range (R4). -/
theorem reportOf_isSome (digest : Option Word) (f : StatusFields) :
    (reportOf digest f).isSome = true ↔ f.inRange := by
  have hparts : (reportOf digest f).isSome = true ↔
      (Phase.ofCode f.phase.toNat).isSome = true ∧
        (haltReportOf f.haltKind f.causeOrOrigin).isSome = true ∧
        f.line.toNat ≤ 23 ∧ f.height.toNat ≤ 24000 ∧ f.load.toNat ≤ 4000 := by
    unfold reportOf
    cases Phase.ofCode f.phase.toNat <;> cases haltReportOf f.haltKind f.causeOrOrigin <;>
      simp [and_assoc]
  rw [hparts, Phase.ofCode_isSome, haltReportOf_isSome, StatusFields.inRange]
  tauto

/-! ### What the Peer Table does with a STATUS frame -/

theorem exec_status_of_head {s : State} {station : BitVec 6} {f : StatusFields}
    {rest : List RxFrame} (hfree : s.held = false)
    (hhead : s.line.rxQueue = .status station f :: rest) :
    exec .status s = .next (takeStatus station f (s.afterHanding rest)) := by
  have hhand : handStatus s = takeStatus station f (s.afterHanding rest) := by
    simp only [handStatus, hhead, setLine_rxQueue]
  exact (running_of_free hfree).trans (congrArg _ hhand)

/-- Without a configuration, from no column or own station, or malformed, a STATUS is discarded (R3,
R4). -/
theorem takeStatus_of_discarded {s : State} {station : BitVec 6} {f : StatusFields}
    (h : s.store.active = none ∨ isColumnStation station = false ∨ station = s.store.station ∨
      ¬f.inRange) : takeStatus station f s = s := by
  unfold takeStatus
  split
  · rfl
  next c hc =>
  split
  · rfl
  next hother =>
  rcases h with h | h | h | h
  · simp [h] at hc
  · simp [h] at hother
  · simp [h] at hother
  · rw [← reportOf_isSome s.store.ownDigest, Bool.not_eq_true, Option.isSome_eq_false_iff,
      Option.isNone_iff_eq_none] at h
    rw [h]

theorem needsClashCheck_iff (old : Option PeerEntry) (r : PeerReport) :
    needsClashCheck old r = true ↔
      ∀ e, old = some e → e.line ≠ r.line ∨ e.side ≠ r.side := by
  cases old <;> simp [needsClashCheck]

/-- A frame of another column with its values in range meets the clash check and is stored, or
reports the clash (R5 to R8). -/
theorem takeStatus_of_report {s : State} {c : ConfigValues} {station : BitVec 6}
    {f : StatusFields} {r : PeerReport} (hc : s.store.active = some c) (hzero : station ≠ 0#6)
    (hcolumn : station.toNat ≤ 48) (hown : station ≠ s.store.station)
    (hr : reportOf s.store.ownDigest f = some r) :
    takeStatus station f s =
      if needsClashCheck (findPeer s.peers station.toNat) r &&
          positionClaimed c s.peers station.toNat r.line r.side then
        report .positionClash s
      else storeReport c station.toNat r s := by
  have hother : (!isColumnStation station || station == s.store.station) = false := by
    simp [(isColumnStation_iff station).2 ⟨hzero, hcolumn⟩, hown]
  simp [takeStatus, hc, hother, hr]

/-- The position of a report is taken by another and not already its own entry's (R5, R6). -/
def State.clashes (s : State) (c : ConfigValues) (e : PeerEntry) : Prop :=
  s.positionTaken c e.station e.line e.side ∧
    ∀ old, findPeer s.peers e.station = some old → old.line ≠ e.line ∨ old.side ≠ e.side

section
variable {s : State} {c : ConfigValues} {station : BitVec 6} {f : StatusFields} {e : PeerEntry}

theorem takeStatus_of_clash (hc : s.store.active = some c) (hzero : station ≠ 0#6)
    (hcolumn : station.toNat ≤ 48) (hown : station ≠ s.store.station)
    (he : e.givenBy station f c s.store.ownDigest) (hclash : s.clashes c e) :
    takeStatus station f s = report .positionClash s := by
  obtain ⟨r, hr, rfl⟩ := (PeerEntry.givenBy_iff e station f c _).1 he
  obtain ⟨htaken, hmoved⟩ := hclash
  rw [takeStatus_of_report hc hzero hcolumn hown hr, if_pos]
  rw [Bool.and_eq_true, needsClashCheck_iff, positionClaimed_iff]
  exact ⟨hmoved, htaken⟩

/-- A frame stored: the entry takes its place, the lamp is re-evaluated, and the items follow
(R6, R9, R10, R87). -/
theorem takeStatus_of_stored (hc : s.store.active = some c) (hzero : station ≠ 0#6)
    (hcolumn : station.toNat ≤ 48) (hown : station ≠ s.store.station)
    (he : e.givenBy station f c s.store.ownDigest) (hclash : ¬s.clashes c e) :
    ∃ restarted, (restarted = true ↔ s.seesRestart e) ∧
      takeStatus station f s =
        statusNotice e restarted (groupComplete s)
          (updateBlink (s.setPeers (storePeer e s.peers))) := by
  obtain ⟨r, hr, rfl⟩ := (PeerEntry.givenBy_iff e station f c _).1 he
  refine ⟨_, isRestart_iff s station.toNat _ r, ?_⟩
  rw [takeStatus_of_report hc hzero hcolumn hown hr, if_neg]
  · rfl
  · rw [Bool.and_eq_true, needsClashCheck_iff, positionClaimed_iff]
    exact fun ⟨hmoved, htaken⟩ => hclash ⟨htaken, hmoved⟩

end

theorem not_clashes_iff (s : State) (c : ConfigValues) (e : PeerEntry) :
    ¬s.clashes c e ↔
      ¬s.positionTaken c e.station e.line e.side ∨
        ∃ old, findPeer s.peers e.station = some old ∧ old.line = e.line ∧ old.side = e.side := by
  simp [State.clashes, imp_iff_not_or]

/-- A stored entry stands under its station, every other as before, and the items leave the rest. -/
theorem statusNotice_stored (e : PeerEntry) (restarted wasComplete : Bool) (s : State) :
    (statusNotice e restarted wasComplete
        (updateBlink (s.setPeers (storePeer e s.peers)))).noticeFrame =
      { s.noticeFrame with peers := storePeer e s.peers } := by
  rw [statusNotice_noticeFrame, updateBlink_noticeFrame]
  rfl

/-- Settles O39: the frame's reading, the clash check, and the storing, each by its lemma above. -/
theorem statusStoredInTable : Obligations.StatusStoredInTable := by
  unfold Obligations.StatusStoredInTable
  intro s station f rest hfree hhead
  rw [exec_status_of_head hfree hhead]
  refine ⟨fun hdiscard => congrArg _ (takeStatus_of_discarded ?_), ?_⟩
  · have hcolumn := isColumnStation_iff station
    simp only [StatusFields.inRange, State.afterHanding]
    grind
  · intro c hc hzero hcolumn hown hline hphase hkind hheight hload hcause horigin
    have hrange : f.inRange := ⟨hline, hphase, hkind, hheight, hload, hcause, horigin⟩
    obtain ⟨r, hr⟩ := Option.isSome_iff_exists.1 ((reportOf_isSome s.store.ownDigest f).2 hrange)
    obtain ⟨e, he⟩ : ∃ e : PeerEntry, e.givenBy station f c s.store.ownDigest :=
      ⟨_, (PeerEntry.givenBy_iff _ station f c _).2 ⟨r, hr, rfl⟩⟩
    have hstation : e.station = station.toNat := he.1
    have hclash := not_clashes_iff (s.afterHanding rest) c e
    rw [← hstation]
    refine ⟨e, he, fun htaken hmoved => ?_, fun hplace => ?_⟩
    · exact congrArg _ (takeStatus_of_clash (s := s.afterHanding rest) hc hzero hcolumn hown he
        ⟨htaken, hmoved⟩)
    · obtain ⟨restarted, -, hstored⟩ := takeStatus_of_stored (s := s.afterHanding rest) hc hzero
        hcolumn hown he (hclash.2 hplace)
      have hframe := statusNotice_stored e restarted (groupComplete (s.afterHanding rest))
        (s.afterHanding rest)
      rw [← hstored] at hframe
      have hpeers := congrArg NoticeFrame.peers hframe
      refine ⟨_, rfl, ?_, fun n hn => ?_, congrArg NoticeFrame.rxQueue hframe,
        congrArg NoticeFrame.queue hframe, congrArg NoticeFrame.sensors hframe,
        congrArg NoticeFrame.store hframe, congrArg NoticeFrame.scanTimer hframe,
        congrArg NoticeFrame.levels hframe,
        (congrArg NoticeFrame.resetsApplied hframe).trans (s.held_eq_false.1 hfree),
        congrArg NoticeFrame.pending hframe⟩
      · exact (congrArg (findPeer · e.station) hpeers).trans (findPeer_storePeer_self e s.peers)
      · exact (congrArg (findPeer · n) hpeers).trans (findPeer_storePeer_of_ne e s.peers hn)

end Sys2Proof.Machine

namespace Sys2Proof.Machine

/-! ### Each item by phase -/

theorem Phase.isStarting_iff_eq (p : Phase) :
    p.isStarting = true ↔ p = .init ∨ p = .unconfigured ∨ p = .listen := by
  cases p <;> simp [Phase.isStarting]

theorem Phase.latchesPeerNotices_iff (p : Phase) :
    p.latchesPeerNotices = true ↔
      p = .seek ∨ p = .seated ∨ p = .lift ∨ p = .hold ∨ p = .lower ∨ p = .retract := by
  cases p <;> simp [Phase.latchesPeerNotices]

theorem epochItem_of_starting {s : State} (h : s.phases.phase.isStarting = true)
    (epoch : BitVec 4) : epochItem epoch s = s.setPhases { s.phases with epoch := epoch } :=
  if_pos h

/-- Outside the starting phases an epoch one ahead is an acknowledgement (R127). -/
theorem epochItem_of_acting {s : State} (h : s.phases.phase.isStarting = false)
    (epoch : BitVec 4) :
    epochItem epoch s = if epoch = s.phases.epoch + 1#4 then acknowledge s else s := by
  simp [epochItem, h]

theorem restartedNotice_of_latching {s : State} (h : s.phases.phase.latchesPeerNotices = true) :
    restartedNotice s = report .peerRestarted s := if_pos h

theorem mismatchNotice_of_latching {s : State} (h : s.phases.phase.latchesPeerNotices = true) :
    mismatchNotice s = report .configMismatch s := if_pos h

theorem restartedNotice_of_not_latching {s : State}
    (h : ¬s.phases.phase.latchesPeerNotices = true) : restartedNotice s = s := if_neg h

theorem mismatchNotice_of_not_latching {s : State}
    (h : ¬s.phases.phase.latchesPeerNotices = true) : mismatchNotice s = s := if_neg h

/-- A LOCAL report acts at own epoch, outside the starting phases (R129). -/
theorem haltItem_local (station : Nat) (epoch : BitVec 4) (cause : Cause) (s : State) :
    haltItem station epoch (.localCause cause) s =
      if epoch = s.phases.epoch ∧ s.phases.phase.isStarting = false then latchPeerHalt station s
      else s := by
  simp [haltItem]

theorem latchPeerHalt_of_held {s : State} (h : s.phases.origin ≠ none) (station : Nat) :
    latchPeerHalt station s = s := by
  obtain ⟨n, hn⟩ := Option.ne_none_iff_exists'.1 h
  rw [latchPeerHalt, hn]

/-- The first origin latched halts the column and fills the slot (R121). -/
theorem latchPeerHalt_of_none {s : State} (h : s.phases.origin = none) (station : Nat) :
    (latchPeerHalt station s).phases.origin = some station ∧
      (latchPeerHalt station s).phases.phase = .halted ∧
      (latchPeerHalt station s).phases.causes = s.phases.causes ∧
      (latchPeerHalt station s).line.slot = true ∧
      (latchPeerHalt station s).line.statusTimer = 20 := by
  simp [latchPeerHalt, h, fillSlot]

/-! ### The items in their order -/

/-- The part behind the epoch, restarted, mismatch and halt items of an entry (R9). -/
def State.afterItems (s : State) (e : PeerEntry) (restarted : Bool) : State :=
  let told := if restarted then restartedNotice (epochItem e.epoch s) else epochItem e.epoch s
  haltItem e.station e.epoch e.halt (if e.digestMatch then told else mismatchNotice told)

theorem statusNotice_eq (e : PeerEntry) (restarted wasComplete : Bool) (s : State) :
    statusNotice e restarted wasComplete s =
      evaluateSeating
        (if !wasComplete && groupComplete (s.afterItems e restarted) then
          completionNotice (s.afterItems e restarted)
        else s.afterItems e restarted) := rfl

theorem afterItems_noticeFrame (s : State) (e : PeerEntry) (restarted : Bool) :
    (s.afterItems e restarted).noticeFrame = s.noticeFrame := by
  simp only [State.afterItems, haltItem_noticeFrame, apply_ite State.noticeFrame,
    mismatchNotice_noticeFrame, restartedNotice_noticeFrame, epochItem_noticeFrame, ite_self]

/-- The completion notice leads out of LISTEN alone (R19, R51). -/
theorem completionNotice_eq (s : State) :
    completionNotice s =
      if s.phases.phase = .listen then
        changePhase (if s.sensors.contact then .hold else .ready) s
      else s := rfl

/-- The part behind the completion notice: the group that this frame completed takes a column in
LISTEN out of it (R19, R51). -/
def State.afterCompletion (s : State) (e : PeerEntry) (restarted wasComplete : Bool) : State :=
  if wasComplete = false ∧ groupComplete s = true ∧
      (s.afterItems e restarted).phases.phase = .listen then
    changePhase (if s.sensors.contact then .hold else .ready) (s.afterItems e restarted)
  else s.afterItems e restarted

theorem statusNotice_eq_evaluateSeating (e : PeerEntry) (restarted wasComplete : Bool) (s : State) :
    statusNotice e restarted wasComplete s =
      evaluateSeating (s.afterCompletion e restarted wasComplete) := by
  have hframe := afterItems_noticeFrame s e restarted
  have hsensors : (s.afterItems e restarted).sensors = s.sensors :=
    congrArg NoticeFrame.sensors hframe
  rw [statusNotice_eq, completionNotice_eq, groupComplete_of_noticeFrame hframe, hsensors,
    ← ite_and, State.afterCompletion]
  simp only [Bool.and_eq_true, Bool.not_eq_true', and_assoc]

theorem afterCompletion_noticeFrame (s : State) (e : PeerEntry) (restarted wasComplete : Bool) :
    (s.afterCompletion e restarted wasComplete).noticeFrame = s.noticeFrame := by
  unfold State.afterCompletion
  split <;> simp only [changePhase_noticeFrame, afterItems_noticeFrame]

theorem evaluateSeating_of_not_seated {s : State} (h : s.phases.phase ≠ .seated) :
    evaluateSeating s = s := if_neg h

/-- In SEATED the count is taken afresh and the seating condition leads to LIFT (R55, R56). -/
theorem evaluateSeating_of_seated {s : State} (h : s.phases.phase = .seated) :
    evaluateSeating s =
      let counted := s.setPhases { s.phases with seatedCount := countSeated s.peers }
      if seatingHolds s then changePhase .lift counted else counted := if_pos h

/-- The frame's entry stored and the blinking lamp re-evaluated, before any item (R6, R87). -/
def State.withStored (s : State) (rest : List RxFrame) (e : PeerEntry) : State :=
  updateBlink { s.afterHanding rest with peers := storePeer e s.peers }

theorem exec_status_of_stored {s : State} {station : BitVec 6} {f : StatusFields}
    {rest : List RxFrame} {c : ConfigValues} {e : PeerEntry} {restarted : Bool}
    (hfree : s.held = false) (hhead : s.line.rxQueue = .status station f :: rest)
    (hc : s.store.active = some c) (hzero : station ≠ 0#6) (hcolumn : station.toNat ≤ 48)
    (hown : station ≠ s.store.station) (he : e.givenBy station f c s.store.ownDigest)
    (hclash : ¬s.clashes c e) (hrestarted : restarted = true ↔ s.seesRestart e) :
    exec .status s =
      .next (evaluateSeating
        ((s.withStored rest e).afterCompletion e restarted (groupComplete s))) := by
  obtain ⟨restarted', hrestarted', hstored⟩ :=
    takeStatus_of_stored (s := s.afterHanding rest) hc hzero hcolumn hown he hclash
  obtain rfl : restarted' = restarted := Bool.eq_iff_iff.2 (hrestarted'.trans hrestarted.symm)
  rw [exec_status_of_head hfree hhead, hstored, statusNotice_eq_evaluateSeating]
  rfl

/-- Settles O40: the stored frame's items in order, and each item by phase. -/
theorem statusNoticeItems : Obligations.StatusNoticeItems := by
  unfold Obligations.StatusNoticeItems
  refine ⟨?_, fun s station epoch cause => ⟨fun hstart => ?_, fun hinit hunconf hlisten => ?_,
    fun hlatch => ?_, fun hquiet => ?_, fun origin => rfl, rfl⟩⟩
  · intro s station f rest c e restarted hfree hhead hc hzero hcolumn hown he hplace hrestarted
    obtain ⟨hstation, -, -, -, -, -, -, -, -, -, -, -, -, hepoch, -⟩ := id he
    rw [← hstation, ← not_clashes_iff] at hplace
    rw [exec_status_of_stored hfree hhead hc hzero hcolumn hown he hplace hrestarted, ← hstation,
      ← hepoch]
    intro stored item1 item2 item3 item4 item5
    have hitem5 : (s.withStored rest e).afterCompletion e restarted (groupComplete s) = item5 := by
      have hsensors : (s.withStored rest e).sensors = s.sensors := updateBlink_sensors _
      rw [State.afterCompletion, hsensors]
      rfl
    have hframe : item5.noticeFrame = stored.noticeFrame :=
      hitem5 ▸ afterCompletion_noticeFrame stored e restarted _
    have hpeers : item5.peers = stored.peers := congrArg NoticeFrame.peers hframe
    have hseating : seatingHolds item5 = seatingHolds stored :=
      seatingHolds_congr (congrArg NoticeFrame.store hframe) hpeers
    rw [hitem5]
    refine ⟨fun hne => congrArg _ (evaluateSeating_of_not_seated hne), fun hseated => ?_⟩
    rw [evaluateSeating_of_seated hseated, hseating, ← hpeers]
    rfl
  · have hs := (Phase.isStarting_iff_eq _).2 hstart
    have hn : ¬s.phases.phase.latchesPeerNotices = true := by
      rcases hstart with h | h | h <;> simp [h, Phase.latchesPeerNotices]
    refine ⟨epochItem_of_starting hs epoch, restartedNotice_of_not_latching hn,
      mismatchNotice_of_not_latching hn, ?_⟩
    rw [haltItem_local, if_neg (by simp [hs])]
  · have hs : s.phases.phase.isStarting = false := by
      rw [Bool.eq_false_iff, ne_eq, Phase.isStarting_iff_eq]
      simp [hinit, hunconf, hlisten]
    simp only [epochItem_of_acting hs, haltItem_local, hs, and_true]
    refine ⟨fun h => if_pos h, fun h => if_neg h, fun h => if_neg h, fun h => ?_⟩
    rw [if_pos h]
    exact ⟨fun horigin => latchPeerHalt_of_held horigin station,
      fun horigin => latchPeerHalt_of_none horigin station⟩
  · have hl := (Phase.latchesPeerNotices_iff _).2 hlatch
    exact ⟨restartedNotice_of_latching hl, mismatchNotice_of_latching hl⟩
  · have hn : ¬s.phases.phase.latchesPeerNotices = true := by
      rcases hquiet with h | h <;> simp [h, Phase.latchesPeerNotices]
    exact ⟨restartedNotice_of_not_latching hn, mismatchNotice_of_not_latching hn⟩

end Sys2Proof.Machine

namespace Sys2Proof.Machine

/-! ### The conditions over the Peer Table -/

theorem mem_presentPeers (peers : List PeerEntry) (e : PeerEntry) :
    e ∈ presentPeers peers ↔ e ∈ peers ∧ e.presence = .present := by
  simp [presentPeers]

theorem reportsSeated_iff (e : PeerEntry) :
    reportsSeated e = true ↔
      e.presence = .present ∧ (e.phase = .seated ∨ e.phase = .lift ∨ e.phase = .hold) ∧
        e.contact = true := by
  simp [reportsSeated, or_assoc, and_assoc]

theorem countSeated_eq (peers : List PeerEntry) :
    countSeated peers =
      (peers.filter fun e => decide (e.presence = .present ∧
        (e.phase = .seated ∨ e.phase = .lift ∨ e.phase = .hold) ∧ e.contact = true)).length := by
  rw [countSeated, List.countP_eq_length_filter]
  congr 2
  funext e
  rw [Bool.eq_iff_iff, reportsSeated_iff, decide_eq_true_eq]

theorem setAtTarget_iff (s : State) :
    setAtTarget s = true ↔
      s.phases.atTarget = true ∧ ∀ e ∈ s.peers, e.presence = .present → e.atTarget = true := by
  simp [setAtTarget, mem_presentPeers]

/-- The matched PRESENT entries, counted (R18). -/
theorem countP_digestMatch_eq (peers : List PeerEntry) :
    (presentPeers peers).countP (fun e => e.digestMatch) =
      (peers.filter fun e => decide (e.presence = .present ∧ e.digestMatch = true)).length := by
  rw [presentPeers, List.countP_filter, List.countP_eq_length_filter]
  congr 2
  funext e
  rw [Bool.eq_iff_iff, Bool.and_eq_true, beq_iff_eq, decide_eq_true_eq, and_comm]

theorem seatingHolds_iff {s : State} {c : ConfigValues} (hc : s.store.active = some c) :
    seatingHolds s = true ↔
      c.expectedSize ≤ countSeated s.peers + 1 ∧ mismatchFree s = true := by
  simp [seatingHolds, hc, c.groupSize_eq]

theorem seatingHolds_of_none {s : State} (hc : s.store.active = none) : seatingHolds s = false := by
  rw [seatingHolds, hc]

/-! The blinking lamp (R87). -/

theorem lampsOf_moving (p : Phase) : (lampsOf p).2.1 = p.isMotion := by cases p <;> rfl

/-- Blinking starts when the set comes to stand at target. -/
theorem updateBlink_start {s : State} (hset : setAtTarget s = true)
    (htimer : s.pendant.blinkTimer = none) :
    updateBlink s =
      { s with pendant := { s.pendant with lampMoving := true, blinkTimer := some 250 } } := by
  simp only [updateBlink, hset, htimer, Option.isNone_none, if_true]
  rfl

/-- It ends with the condition, and the lamp shows the phase again. -/
theorem updateBlink_end {s : State} (hset : setAtTarget s = false)
    (htimer : s.pendant.blinkTimer ≠ none) :
    updateBlink s =
      { s with
        pendant :=
          { s.pendant with lampMoving := s.phases.phase.isMotion, blinkTimer := none } } := by
  simp only [updateBlink, hset, Option.isSome_iff_ne_none.2 htimer, if_true, lampsOf_moving]
  rfl

theorem updateBlink_steady {s : State}
    (h : setAtTarget s = true ↔ s.pendant.blinkTimer ≠ none) : updateBlink s = s := by
  rw [← Option.isSome_iff_ne_none, ← Bool.eq_iff_iff] at h
  rw [updateBlink, h]
  cases s.pendant.blinkTimer <;> rfl

/-! ### The neighbour slots -/

/-- The last item of an ascending list is its greatest. -/
theorem getLast?_of_greatest {l : List Nat} {p : Nat} (hl : l.Pairwise (fun a b => a < b))
    (hp : p ∈ l) (hmax : ∀ q ∈ l, q ≤ p) : l.getLast? = some p := by
  rcases List.eq_nil_or_concat' l with rfl | ⟨ys, x, rfl⟩
  · simp at hp
  · have hx := hmax x (by simp)
    rcases List.mem_append.1 hp with hp | hp
    · have hlt := (List.pairwise_append.1 hl).2.2 p hp x (by simp)
      omega
    · simp [List.mem_singleton.1 hp]

/-- The first item of an ascending list is its least. -/
theorem head?_of_least {l : List Nat} {p : Nat} (hl : l.Pairwise (fun a b => a < b))
    (hp : p ∈ l) (hmin : ∀ q ∈ l, p ≤ q) : l.head? = some p := by
  cases l with
  | nil => simp at hp
  | cons x xs =>
    rcases List.mem_cons.1 hp with rfl | hp
    · rfl
    · have hlt := (List.pairwise_cons.1 hl).1 p hp
      have hle := hmin x List.mem_cons_self
      omega

theorem mem_linesBelow (c : ConfigValues) (k : Nat) :
    k ∈ c.enabledLines.filter (fun k => k < c.lineNo) ↔
      c.lineEnabled k = true ∧ k < c.fields.line.toNat := by
  rw [List.mem_filter, c.mem_enabledLines, decide_eq_true_eq, ConfigValues.lineNo]

theorem mem_linesAbove (c : ConfigValues) (k : Nat) :
    k ∈ c.enabledLines.filter (fun k => c.lineNo < k) ↔
      c.lineEnabled k = true ∧ c.fields.line.toNat < k := by
  rw [List.mem_filter, c.mem_enabledLines, decide_eq_true_eq, ConfigValues.lineNo]

theorem previousLine_eq_some {c : ConfigValues} {p : Nat} (hp : c.lineEnabled p = true)
    (hlt : p < c.fields.line.toNat)
    (hmax : ∀ q, c.lineEnabled q = true → q < c.fields.line.toNat → q ≤ p) :
    previousLine c = some p :=
  getLast?_of_greatest (c.enabledLines_sorted.filter _) ((mem_linesBelow c p).2 ⟨hp, hlt⟩)
    fun q hq => ((mem_linesBelow c q).1 hq).elim (hmax q)

theorem previousLine_eq_none {c : ConfigValues}
    (h : ∀ q, c.lineEnabled q = true → c.fields.line.toNat ≤ q) : previousLine c = none := by
  rw [previousLine, List.getLast?_eq_none_iff, List.eq_nil_iff_forall_not_mem]
  intro q hq
  obtain ⟨hq, hlt⟩ := (mem_linesBelow c q).1 hq
  exact absurd hlt (Nat.not_lt.2 (h q hq))

theorem nextLine_eq_some {c : ConfigValues} {n : Nat} (hn : c.lineEnabled n = true)
    (hlt : c.fields.line.toNat < n)
    (hmin : ∀ q, c.lineEnabled q = true → c.fields.line.toNat < q → n ≤ q) :
    nextLine c = some n :=
  head?_of_least (c.enabledLines_sorted.filter _) ((mem_linesAbove c n).2 ⟨hn, hlt⟩)
    fun q hq => ((mem_linesAbove c q).1 hq).elim (hmin q)

theorem nextLine_eq_none {c : ConfigValues}
    (h : ∀ q, c.lineEnabled q = true → q ≤ c.fields.line.toNat) : nextLine c = none := by
  rw [nextLine, List.head?_eq_none_iff, List.eq_nil_iff_forall_not_mem]
  intro q hq
  obtain ⟨hq, hlt⟩ := (mem_linesAbove c q).1 hq
  exact absurd hlt (Nat.not_lt.2 (h q hq))

theorem slotPosition_partner (c : ConfigValues) :
    slotPosition c .partner =
      some (c.fields.line.toNat, if c.fields.side = 0#16 then .right else .left) := by
  simp only [slotPosition, ConfigValues.lineNo, ConfigValues.ownSide]
  split <;> rfl

/-! The state of a slot (R16, R17). -/

theorem slotState_of_absent {c : ConfigValues} {slot : Slot} (h : slotPosition c slot = none)
    (peers : List PeerEntry) : slotState c peers slot = .absent := by
  rw [slotState, h]

section
variable {c : ConfigValues} {peers : List PeerEntry} {slot : Slot} {line : Nat} {side : Side}

theorem slotState_of_unfilled (h : slotPosition c slot = some (line, side))
    (hnone : ∀ e ∈ peers, e.line = line → e.side ≠ side) :
    slotState c peers slot = .unfilled := by
  have hfind : peers.find? (fun e => e.line == line && e.side == side) = none := by
    simpa using hnone
  simp only [slotState, h, hfind]

/-- A slot is PRESENT or LOST as the one entry at its position is. -/
theorem slotState_of_filled (h : slotPosition c slot = some (line, side)) {e : PeerEntry}
    (he : e ∈ peers) (hline : e.line = line) (hside : e.side = side)
    (honly : ∀ other ∈ peers, other.line = line → other.side = side → other = e) :
    slotState c peers slot =
      if e.presence = .lost then .lost e else .present e := by
  have hfind : peers.find? (fun e => e.line == line && e.side == side) = some e := by
    obtain ⟨x, hx⟩ := Option.isSome_iff_exists.1
      (List.find?_isSome.2 ⟨e, he, by simp [hline, hside]⟩ :
        (peers.find? (fun e => e.line == line && e.side == side)).isSome = true)
    have hpos := List.find?_some hx
    rw [Bool.and_eq_true, beq_iff_eq, beq_iff_eq] at hpos
    rw [hx, honly x (List.mem_of_find?_eq_some hx) hpos.1 hpos.2]
  simp only [slotState, h, hfind]
  cases e.presence <;> rfl

end

/-! The heights of the neighbourhood (R25 to R27). -/

theorem mem_allSlots (slot : Slot) : slot ∈ allSlots := by cases slot <;> simp [allSlots]

theorem reportCounts_iff (phase : Phase) (e : PeerEntry) :
    reportCounts phase e = true ↔
      (phase = .lower → e.phase = .lower ∨ e.phase = .hold ∨ e.phase = .seated) := by
  cases phase <;> simp [reportCounts, or_assoc]

/-- An unfilled or LOST slot is enough to leave no heights (R27). -/
theorem neighbourHeights_eq_none_iff (c : ConfigValues) (peers : List PeerEntry) (phase : Phase)
    (slots : List Slot) :
    neighbourHeights c peers phase slots = none ↔
      ∃ slot ∈ slots,
        slotState c peers slot = .unfilled ∨ ∃ e, slotState c peers slot = .lost e := by
  induction slots with
  | nil => simp [neighbourHeights]
  | cons slot rest ih =>
    simp only [List.mem_cons, exists_eq_or_imp, ← ih, neighbourHeights]
    cases neighbourHeights c peers phase rest with
    | none => simp
    | some hs =>
      cases slotState c peers slot with
      | absent => simp
      | unfilled => simp
      | lost e => simp
      | present e =>
        simp only [reduceCtorEq, exists_false, or_self, iff_false]
        split <;> simp

/-- Else the heights are those of the PRESENT slots whose reports count. -/
theorem mem_neighbourHeights {c : ConfigValues} {peers : List PeerEntry} {phase : Phase}
    {slots : List Slot} {heights : List Nat}
    (hs : neighbourHeights c peers phase slots = some heights) (h : Nat) :
    h ∈ heights ↔
      ∃ slot ∈ slots, ∃ e,
        slotState c peers slot = .present e ∧ e.height = h ∧ reportCounts phase e = true := by
  induction slots generalizing heights with
  | nil =>
    obtain rfl : [] = heights := by simpa [neighbourHeights] using hs
    simp
  | cons slot rest ih =>
    rw [neighbourHeights] at hs
    simp only [List.mem_cons, exists_eq_or_imp]
    cases hrest : neighbourHeights c peers phase rest with
    | none => simp [hrest] at hs
    | some tail =>
      rw [← ih hrest]
      cases hslot : slotState c peers slot with
      | absent =>
        obtain rfl : tail = heights := by simpa [hrest, hslot] using hs
        simp
      | unfilled => simp [hrest, hslot] at hs
      | lost e => simp [hrest, hslot] at hs
      | present e =>
        simp only [hrest, hslot] at hs
        split at hs
        case isTrue hcounts =>
          obtain rfl := Option.some.inj hs
          simp [hcounts, eq_comm (a := h)]
        case isFalse hcounts =>
          obtain rfl := Option.some.inj hs
          simp [hcounts]

/-- Settles O41: the conditions, the slots and the neighbourhood, each by its lemma above. -/
theorem peerTableConditions : Obligations.PeerTableConditions := by
  unfold Obligations.PeerTableConditions
  intro s
  refine ⟨mem_presentPeers s.peers, mismatchFree_iff s, countSeated_eq s.peers, setAtTarget_iff s,
    updateBlink_start, updateBlink_end, updateBlink_steady,
    fun hc => ⟨groupComplete_of_none hc, seatingHolds_of_none hc⟩, fun c hc => ?_⟩
  refine ⟨countP_digestMatch_eq s.peers ▸ groupComplete_iff hc, seatingHolds_iff hc,
    slotPosition_partner c, fun p hp hlt hmax => ?_, fun h => ?_, fun n hn hlt hmin => ?_,
    fun h => ?_, fun slot => ⟨fun h => slotState_of_absent h s.peers, fun line side h =>
      ⟨slotState_of_unfilled h, fun e he hline hside honly => ?_⟩⟩, fun phase => ⟨?_, ?_⟩⟩
  · simp [slotPosition, previousLine_eq_some hp hlt hmax]
  · simp [slotPosition, previousLine_eq_none h]
  · simp [slotPosition, nextLine_eq_some hn hlt hmin]
  · simp [slotPosition, nextLine_eq_none h]
  · rw [slotState_of_filled h he hline hside honly]
    exact ⟨fun hpresence => by simp [hpresence], fun hpresence => if_pos hpresence⟩
  · simp [neighbourHeights_eq_none_iff, mem_allSlots]
  · intro heights hs h
    simp [mem_neighbourHeights hs, mem_allSlots, reportCounts_iff]

end Sys2Proof.Machine

/-! ## Level following: proofs of the family's statements -/

namespace Sys2Proof.Machine

/-! ### The lowest and the highest of a list of heights -/

theorem le_foldl_min_iff (hs : List Nat) (h b : Nat) :
    b ≤ hs.foldl min h ↔ b ≤ h ∧ ∀ x ∈ hs, b ≤ x := by
  induction hs generalizing h with
  | nil => simp
  | cons x xs ih => rw [List.foldl_cons, ih, Nat.le_min, List.forall_mem_cons, and_assoc]

theorem foldl_max_le_iff (hs : List Nat) (h b : Nat) :
    hs.foldl max h ≤ b ↔ h ≤ b ∧ ∀ x ∈ hs, x ≤ b := by
  induction hs generalizing h with
  | nil => simp
  | cons x xs ih => rw [List.foldl_cons, ih, Nat.max_le, List.forall_mem_cons, and_assoc]

/-! ### The spread check (R40) -/

theorem State.ownHeight_eq {s : State} {h : Nat} (hh : s.sensors.height = some h) :
    ownHeight s = h := by
  rw [ownHeight, hh, Option.getD_some]

theorem spreadHeights_eq (s : State) : spreadHeights s = s.loadedHeights := by
  simp only [spreadHeights, presentPeers, State.loadedHeights, ownHeight, List.filter_filter,
    Bool.and_comm]

/-- A spread within `bound` is one within which every two of the heights lie. -/
theorem spreadOf_le_iff {h : Nat} {hs : List Nat} (hmem : h ∈ hs) (bound : Nat) :
    spreadOf h hs ≤ bound ↔ ∀ a ∈ hs, ∀ b ∈ hs, a ≤ b + bound := by
  have habove (a : Nat) : a ≤ bound + hs.foldl min h ↔ ∀ b ∈ hs, a ≤ b + bound := by
    rw [← Nat.sub_le_iff_le_add', le_foldl_min_iff]
    simp only [Nat.sub_le_iff_le_add]
    exact ⟨fun hall => hall.2, fun hall => ⟨hall h hmem, hall⟩⟩
  rw [spreadOf, Nat.sub_le_iff_le_add, foldl_max_le_iff]
  simp only [habove]
  exact ⟨fun hall => hall.2, fun hall => ⟨hall h hmem, hall⟩⟩

theorem spreadOf_le_iff_spreadWithin (s : State) (c : ConfigValues) :
    spreadOf (ownHeight s) (spreadHeights s) ≤ 2 * c.tol.aGroup.toNat ↔ s.spreadWithin c := by
  have hown : ownHeight s ∈ s.loadedHeights := List.mem_cons_self
  rw [spreadHeights_eq, spreadOf_le_iff hown, State.spreadWithin]

/-- Outside the loaded phases no check is made (R22). -/
theorem spreadCheck_of_unloaded {s : State} (hp : s.phases.phase.isLoaded = false) :
    spreadCheck s = s := by
  unfold spreadCheck
  split
  · rfl
  · simp [hp]

section
variable {s : State} {c : ConfigValues} (hc : s.store.active = some c)
include hc

theorem spreadCheck_of_within (hw : s.spreadWithin c) : spreadCheck s = s := by
  have hle := Nat.not_lt.2 ((spreadOf_le_iff_spreadWithin s c).2 hw)
  simp only [spreadCheck, hc, hle, decide_false, Bool.and_false, Bool.false_eq_true, if_false]

theorem spreadCheck_of_beyond (hp : s.phases.phase.isLoaded = true) (hw : ¬s.spreadWithin c) :
    spreadCheck s = report .spread s := by
  have hlt := Nat.not_le.1 (mt (spreadOf_le_iff_spreadWithin s c).1 hw)
  simp only [spreadCheck, hc, hp, hlt, decide_true, Bool.and_true, if_true]

end

/-- A report either changes nothing or leaves the phase HALTED (R120, R64). -/
theorem report_eq_self_or_halted (cause : Cause) (s : State) :
    report cause s = s ∨ (report cause s).phases.phase = .halted := by
  unfold report
  split
  · exact Or.inl rfl
  · exact Or.inr (by simp)

theorem spreadCheck_eq_self_or_halted (s : State) :
    spreadCheck s = s ∨ (spreadCheck s).phases.phase = .halted := by
  unfold spreadCheck
  split
  · exact Or.inl rfl
  · split
    · exact report_eq_self_or_halted .spread s
    · exact Or.inl rfl

@[simp] theorem spreadCheck_store (s : State) : (spreadCheck s).store = s.store := by
  unfold spreadCheck
  split
  · rfl
  · split <;> simp

/-! ### Arrival (R31, R32) -/

/-- Outside LOWER, and in LOWER with no mark above it, the target is the effective target (R31). -/
theorem effectiveTarget_of_target {s : State} {goal : Nat} (ht : s.phases.target = some goal)
    (hm : s.phases.phase = .lower → ∀ mark, s.phases.mark = some mark → mark ≤ goal) :
    effectiveTarget s = (goal, false) := by
  unfold effectiveTarget
  simp only [ht, Option.getD_some]
  split
  case h_1 mark hp hmark => exact if_neg (Nat.not_lt.2 (hm hp mark hmark))
  case h_2 => rfl

/-- In LOWER a mark above the target takes its place (R31). -/
theorem effectiveTarget_of_mark {s : State} {goal mark : Nat} (hp : s.phases.phase = .lower)
    (ht : s.phases.target = some goal) (hm : s.phases.mark = some mark) (hlt : goal < mark) :
    effectiveTarget s = (mark, true) := by
  simp only [effectiveTarget, hp, ht, hm, Option.getD_some, hlt, if_true]

/-- In LOWER the effective target is the higher of the mark and the target (R31). -/
theorem effectiveTarget_of_lower {s : State} {h : Nat} (hh : s.sensors.height = some h)
    (hp : s.phases.phase = .lower) :
    (effectiveTarget s).1 =
      match s.phases.mark with
      | none => s.phases.target.getD h
      | some mark => max mark (s.phases.target.getD h) := by
  simp only [effectiveTarget, hp, State.ownHeight_eq hh]
  cases s.phases.mark with
  | none => rfl
  | some mark => simp only; split <;> simp only <;> omega

theorem Phase.direction_eq_down_iff (p : Phase) :
    p.direction = some .down ↔ p = .lower ∨ p = .retract := by
  cases p <;> simp [Phase.direction]

section
variable {s : State} {h goal : Nat} (hh : s.sensors.height = some h)
  (hgoal : (effectiveTarget s).1 = goal)
include hh hgoal

theorem distanceToGo_of_lift (hp : s.phases.phase = .lift) :
    distanceToGo s = (goal : Int) - h := by
  simp only [distanceToGo, hp, Phase.direction, hgoal, State.ownHeight_eq hh]

theorem distanceToGo_of_down (hp : s.phases.phase.direction = some .down) :
    distanceToGo s = (h : Int) - goal := by
  simp only [distanceToGo, hp, hgoal, State.ownHeight_eq hh]

theorem hasArrived_lift_iff (hp : s.phases.phase = .lift) :
    hasArrived s = true ↔ goal ≤ h + 2 := by
  simp only [hasArrived, hp, distanceToGo_of_lift hh hgoal hp, decide_eq_true_eq, arrivalBand]
  omega

theorem not_hasArrived_lift (hp : s.phases.phase = .lift) (hfar : h + 2 < goal) :
    hasArrived s = false := by
  rw [← Bool.not_eq_true, hasArrived_lift_iff hh hgoal hp]
  omega

theorem hasArrived_down_iff (hp : s.phases.phase.direction = some .down) :
    hasArrived s = true ↔ h ≤ goal + 2 ∨ lineActive s 2 = true := by
  have htest :
      hasArrived s = (decide (distanceToGo s ≤ (arrivalBand : Int)) || bottomActive s) := by
    rcases (Phase.direction_eq_down_iff _).1 hp with hq | hq <;> simp only [hasArrived, hq]
  rw [htest, distanceToGo_of_down hh hgoal hp, Bool.or_eq_true, decide_eq_true_eq, bottomActive,
    arrivalBand]
  exact or_congr_left (by omega)

theorem not_hasArrived_down (hp : s.phases.phase.direction = some .down) (hfar : goal + 2 < h)
    (hbottom : lineActive s 2 = false) : hasArrived s = false := by
  rw [← Bool.not_eq_true, hasArrived_down_iff hh hgoal hp, hbottom]
  simpa using hfar

end

/-- An arrival leaves LIFT and LOWER for HOLD with the flag of its kind (R57, R59). -/
theorem arrive_phases_hold {s : State} (hp : s.phases.phase = .lift ∨ s.phases.phase = .lower)
    (atMark : Bool) :
    (arrive atMark s).phases =
      { s.phases with phase := .hold, atTarget := !atMark, atMark := atMark } := by
  have hne : s.phases.phase ≠ .hold := by rcases hp with hp | hp <;> simp [hp]
  rcases hp with hp | hp <;> cases atMark <;> simp [arrive, hp, changePhase_phases hne]

/-- It leaves RETRACT for READY (R61). -/
theorem arrive_phases_ready {s : State} (hp : s.phases.phase = .retract) (atMark : Bool) :
    (arrive atMark s).phases =
      { s.phases with phase := .ready, atTarget := false, atMark := false } := by
  simp [arrive, hp, changePhase_phases]

theorem arrive_causes (atMark : Bool) (s : State) :
    (arrive atMark s).phases.causes = s.phases.causes := by
  unfold arrive
  split
  · cases atMark <;> simp
  · cases atMark <;> simp
  · simp
  all_goals rfl

/-! ### Ratios and leads (R28 to R30) -/

theorem followRatio_eq (allowance lead : Nat) :
    followRatio allowance lead =
      min 1024 ((((allowance : Int) - (lead : Int)) * 1024).tdiv (allowance : Int)).toNat := by
  rw [followRatio, clampTo, Nat.min_comm]

/-- A lead at or above its allowance leaves no ratio (R30). -/
theorem followRatio_eq_zero {allowance lead : Nat} (h : allowance ≤ lead) :
    followRatio allowance lead = 0 := by
  have hnum : ((allowance : Int) - lead) * 1024 = -(((lead : Int) - allowance) * 1024) := by omega
  have hexcess : 0 ≤ (((lead : Int) - allowance) * 1024).tdiv (allowance : Int) :=
    Int.tdiv_nonneg (by omega) (by omega)
  rw [followRatio_eq, hnum, Int.neg_tdiv, Int.toNat_of_nonpos (by omega), Nat.min_zero]

/-- A column leads a set by at least what it leads each of it by. -/
theorem leadOver_singleton_le (direction : Option Direction) (h : Nat) {x : Nat} {hs : List Nat}
    (hx : x ∈ hs) : leadOver direction h [x] ≤ leadOver direction h hs := by
  have hmin := (le_foldl_min_iff hs h _).1 le_rfl
  have hmax := (foldl_max_le_iff hs h _).1 le_rfl
  have hmin' := hmin.2 x hx
  have hmax' := hmax.2 x hx
  unfold leadOver
  split <;> simp only [List.foldl_cons, List.foldl_nil] <;> omega

theorem le_leadOver_lift {s : State} {h a x : Nat} (hh : s.sensors.height = some h)
    (hp : s.phases.phase = .lift) (hx : x + a ≤ h) :
    a ≤ leadOver s.phases.phase.direction (ownHeight s) [x] := by
  simp only [hp, Phase.direction, leadOver, State.ownHeight_eq hh, List.foldl_cons, List.foldl_nil]
  omega

theorem le_leadOver_lower {s : State} {h a x : Nat} (hh : s.sensors.height = some h)
    (hp : s.phases.phase = .lower) (hx : h + a ≤ x) :
    a ≤ leadOver s.phases.phase.direction (ownHeight s) [x] := by
  simp only [hp, Phase.direction, leadOver, State.ownHeight_eq hh, List.foldl_cons, List.foldl_nil]
  omega

theorem groupHeights_lift (peers : List PeerEntry) :
    groupHeights peers .lift = (presentPeers peers).map (fun e => e.height) := by
  have hall : (presentPeers peers).filter (reportCounts .lift) = presentPeers peers :=
    List.filter_eq_self.2 fun _ _ => rfl
  rw [groupHeights, hall]

theorem mem_groupHeights {peers : List PeerEntry} {phase : Phase} {e : PeerEntry} (he : e ∈ peers)
    (hpresent : e.presence = .present) (hcounts : reportCounts phase e = true) :
    e.height ∈ groupHeights peers phase :=
  List.mem_map_of_mem
    (List.mem_filter.2 ⟨(mem_presentPeers peers e).2 ⟨he, hpresent⟩, hcounts⟩)

/-! The governing ratio, without and with heights of the neighbourhood. -/

theorem governingRatio_of_none {c : ConfigValues} {s : State}
    (hn : neighbourHeights c s.peers s.phases.phase allSlots = none) : governingRatio c s = 0 := by
  simp only [governingRatio, hn, Nat.zero_min]

theorem governingRatio_of_some {c : ConfigValues} {s : State} {hs : List Nat}
    (hn : neighbourHeights c s.peers s.phases.phase allSlots = some hs) :
    governingRatio c s =
      min (followRatio c.tol.aLocal.toNat (leadOver s.phases.phase.direction (ownHeight s) hs))
        (followRatio c.tol.aGroup.toNat
          (leadOver s.phases.phase.direction (ownHeight s)
            (groupHeights s.peers s.phases.phase))) := by
  simp only [governingRatio, hn]

theorem governingRatio_of_neighbourLead {c : ConfigValues} {s : State} {slot : Slot}
    {e : PeerEntry} (hslot : slotState c s.peers slot = .present e)
    (hcounts : reportCounts s.phases.phase e = true)
    (hlead : c.tol.aLocal.toNat ≤ leadOver s.phases.phase.direction (ownHeight s) [e.height]) :
    governingRatio c s = 0 := by
  cases hn : neighbourHeights c s.peers s.phases.phase allSlots with
  | none => exact governingRatio_of_none hn
  | some hs =>
    have hmem :=
      (mem_neighbourHeights hn e.height).2 ⟨slot, mem_allSlots slot, e, hslot, rfl, hcounts⟩
    have hzero := followRatio_eq_zero (hlead.trans (leadOver_singleton_le _ _ hmem))
    rw [governingRatio_of_some hn, hzero, Nat.zero_min]

theorem governingRatio_of_groupLead {c : ConfigValues} {s : State} {e : PeerEntry}
    (he : e ∈ s.peers) (hpresent : e.presence = .present)
    (hcounts : reportCounts s.phases.phase e = true)
    (hlead : c.tol.aGroup.toNat ≤ leadOver s.phases.phase.direction (ownHeight s) [e.height]) :
    governingRatio c s = 0 := by
  cases hn : neighbourHeights c s.peers s.phases.phase allSlots with
  | none => exact governingRatio_of_none hn
  | some hs =>
    have hmem := mem_groupHeights he hpresent hcounts
    have hzero := followRatio_eq_zero (hlead.trans (leadOver_singleton_le _ _ hmem))
    rw [governingRatio_of_some hn, hzero, Nat.min_zero]

/-! ### The speed before the ramp (R33 to R36) -/

theorem approachSpeed_sub (c : ConfigValues) (a b : Nat) :
    approachSpeed c ((a : Int) - b) = min c.fields.vNom.toNat (4 * (a - b)) := by
  rw [approachSpeed]
  congr 1
  omega

theorem wantedSpeed_of_follow {c : ConfigValues} {s : State}
    (hp : s.phases.phase = .lift ∨ s.phases.phase = .lower) :
    wantedSpeed c s = creepFloor c (min (followSpeed c s) (approachSpeed c (distanceToGo s))) := by
  rcases hp with hp | hp <;> simp only [wantedSpeed, hp]

theorem wantedSpeed_of_noRatio {c : ConfigValues} {s : State}
    (hp : s.phases.phase = .lift ∨ s.phases.phase = .lower) (hr : governingRatio c s = 0) :
    wantedSpeed c s = 0 := by
  rw [wantedSpeed_of_follow hp, followSpeed, hr, Nat.mul_zero, Nat.zero_div, Nat.zero_min,
    creepFloor, if_pos rfl]

theorem creepFloor_le {c : ConfigValues} {v : Nat} (hv : v ≤ c.fields.vNom.toNat)
    (hcreep : c.fields.vCreep.toNat ≤ c.fields.vNom.toNat) :
    creepFloor c v ≤ c.fields.vNom.toNat := by
  unfold creepFloor
  split <;> omega

theorem approachSpeed_le (c : ConfigValues) (d : Int) :
    approachSpeed c d ≤ c.fields.vNom.toNat := Nat.min_le_left ..

theorem vCreep_le_vNom {c : ConfigValues} (hr : c.related = true) :
    c.fields.vCreep.toNat ≤ c.fields.vNom.toNat := by
  simp only [ConfigValues.related, Bool.and_eq_true, decide_eq_true_eq] at hr
  obtain ⟨⟨⟨⟨hcreep, -⟩, -⟩, -⟩, -⟩ := hr
  exact hcreep

/-- Before the ramp no phase asks for more than V_NOM (R37). -/
theorem wantedSpeed_le {c : ConfigValues} (hr : c.related = true) (s : State) :
    wantedSpeed c s ≤ c.fields.vNom.toNat := by
  have hcreep := vCreep_le_vNom hr
  have happroach := approachSpeed_le c (distanceToGo s)
  unfold wantedSpeed
  split
  case h_1 | h_2 => exact creepFloor_le ((Nat.min_le_right ..).trans happroach) hcreep
  case h_3 => exact hcreep
  case h_4 => exact creepFloor_le happroach hcreep
  all_goals exact Nat.zero_le _

/-! ### The ramp and the demand handed (R37 to R39) -/

theorem ramp_eq_min (step prev v : Nat) : ramp step prev v = min v (prev + step) := by
  unfold ramp
  split <;> omega

/-- The demand of a speed `v` wanted in a motion phase: 0 in the dwell, else through the ramp, with
its duty (R37 to R39). -/
def rampedDemand (c : ConfigValues) (s : State) (v : Nat) : Demand :=
  let speed :=
    if s.drive.state = .dwell then 0
    else min v (s.follower.prevDemand + c.fields.rampStep.toNat)
  { speed := speed, direction := s.phases.phase.direction
    duty := min (speed * 1000 / c.fields.vDriveMax.toNat) 1000 }

theorem rampedDemand_speed (c : ConfigValues) (s : State) (v : Nat) :
    (rampedDemand c s v).speed =
      if s.drive.state = .dwell then 0
      else min v (s.follower.prevDemand + c.fields.rampStep.toNat) := rfl

theorem rampedDemand_speed_le (c : ConfigValues) (s : State) (v : Nat) :
    (rampedDemand c s v).speed ≤ v ∧
      (rampedDemand c s v).speed ≤ s.follower.prevDemand + c.fields.rampStep.toNat := by
  rw [rampedDemand_speed]
  split <;> omega

theorem demandFor_of_stopped {before : State} (hp : before.phases.phase.isMotion = false)
    (c : ConfigValues) (arrived : Bool) (now : State) :
    demandFor c arrived before now = stoppedDemand := by
  simp [demandFor, hp]

theorem demandFor_of_going {s : State} (hp : s.phases.phase.isMotion = true) (c : ConfigValues) :
    demandFor c false s s = rampedDemand c s (wantedSpeed c s) := by
  simp only [demandFor, hp, if_true, Bool.false_eq_true, if_false, ramp_eq_min, dutyOf,
    rampedDemand]

/-- A sample that arrives hands 0, whatever the arrival did to the drive (R32). -/
theorem demandFor_of_arrived {before : State} (hp : before.phases.phase.isMotion = true)
    (c : ConfigValues) (now : State) :
    demandFor c true before now = rampedDemand c before 0 := by
  simp only [demandFor, hp, if_true, ramp_eq_min, dutyOf, rampedDemand, Nat.zero_min, ite_self]

/-! ### The sample's work (R22)

What the spread check leaves decides: HALTED, or the state as the sample found it. -/

@[simp] theorem handDemand_follower (d : Demand) (s : State) :
    (handDemand d s).follower = { s.follower with prevDemand := d.speed, lastDemand := d } := rfl

@[simp] theorem handDemand_phases (d : Demand) (s : State) :
    (handDemand d s).phases = s.phases := rfl

/-- The state after the arrival test (R22, R32). -/
def afterArrivalTest (s : State) : State :=
  if hasArrived s then arrive (effectiveTarget s).2 s else s

theorem afterArrivalTest_of_going {s : State} (ha : hasArrived s = false) :
    afterArrivalTest s = s := by simp [afterArrivalTest, ha]

theorem afterArrivalTest_of_arrived {s : State} (ha : hasArrived s = true) :
    afterArrivalTest s = arrive (effectiveTarget s).2 s := by simp [afterArrivalTest, ha]

theorem followSample_eq {s : State} {c : ConfigValues} (hc : s.store.active = some c) :
    followSample s =
      handDemand
        (demandFor c (hasArrived (spreadCheck s)) (spreadCheck s)
          (afterArrivalTest (spreadCheck s)))
        (afterArrivalTest (spreadCheck s)) := by
  simp only [followSample, spreadCheck_store, hc, afterArrivalTest]

theorem hasArrived_of_stopped {s : State} (hp : s.phases.phase.isMotion = false) :
    hasArrived s = false := by
  unfold hasArrived
  split
  case h_1 hq | h_2 hq | h_3 hq =>
    rw [hq] at hp
    exact absurd hp (by decide)
  all_goals rfl

section
variable {s : State} {c : ConfigValues} (hc : s.store.active = some c)
include hc

theorem followSample_prevDemand :
    (followSample s).follower.prevDemand = (followSample s).follower.lastDemand.speed := by
  rw [followSample_eq hc, handDemand_follower]

/-- A sample that the spread check leaves in a stopped phase hands 0 with no direction (R23). -/
theorem followSample_of_stopped (hp : (spreadCheck s).phases.phase.isMotion = false) :
    (followSample s).phases = (spreadCheck s).phases ∧
      (followSample s).follower.lastDemand = stoppedDemand := by
  rw [followSample_eq hc, demandFor_of_stopped hp,
    afterArrivalTest_of_going (hasArrived_of_stopped hp)]
  exact ⟨rfl, rfl⟩

theorem followSample_of_halted (hp : (spreadCheck s).phases.phase = .halted) :
    (followSample s).follower.lastDemand = stoppedDemand :=
  (followSample_of_stopped hc (by rw [hp]; rfl)).2

theorem followSample_phases (hs : spreadCheck s = s) :
    (followSample s).phases = (afterArrivalTest s).phases := by
  rw [followSample_eq hc, hs, handDemand_phases]

theorem followSample_lastDemand (hs : spreadCheck s = s) (hp : s.phases.phase.isMotion = true) :
    (followSample s).follower.lastDemand =
      rampedDemand c s (if hasArrived s then 0 else wantedSpeed c s) := by
  rw [followSample_eq hc, hs, handDemand_follower]
  cases ha : hasArrived s with
  | false => simpa [afterArrivalTest_of_going ha] using demandFor_of_going hp c
  | true => simpa using demandFor_of_arrived hp c _

/-- Every demand handed is that of a stopped phase or one through the ramp (R23, R37). -/
theorem followSample_lastDemand_cases :
    (followSample s).follower.lastDemand = stoppedDemand ∨
      s.phases.phase.isMotion = true ∧
        (followSample s).follower.lastDemand =
          rampedDemand c s (if hasArrived s then 0 else wantedSpeed c s) := by
  rcases spreadCheck_eq_self_or_halted s with hs | hp
  · cases hm : s.phases.phase.isMotion with
    | false => exact Or.inl (followSample_of_stopped hc (by rw [hs, hm])).2
    | true => exact Or.inr ⟨rfl, followSample_lastDemand hc hs hm⟩
  · exact Or.inl (followSample_of_halted hc hp)

/-- A sample that neither spreads nor arrives goes on in its phase. -/
theorem followSample_of_going (hs : spreadCheck s = s) (hp : s.phases.phase.isMotion = true)
    (ha : hasArrived s = false) :
    (followSample s).phases = s.phases ∧
      (followSample s).follower.lastDemand = rampedDemand c s (wantedSpeed c s) := by
  rw [followSample_phases hc hs, followSample_lastDemand hc hs hp, ha,
    afterArrivalTest_of_going ha]
  exact ⟨rfl, rfl⟩

/-- One that arrives hands 0 (R32). -/
theorem followSample_of_arrived (hs : spreadCheck s = s) (hp : s.phases.phase.isMotion = true)
    (ha : hasArrived s = true) :
    (followSample s).phases = (arrive (effectiveTarget s).2 s).phases ∧
      (followSample s).follower.lastDemand.speed = 0 := by
  rw [followSample_phases hc hs, followSample_lastDemand hc hs hp, ha,
    afterArrivalTest_of_arrived ha]
  exact ⟨rfl, Nat.le_zero.1 (rampedDemand_speed_le c s 0).1⟩

end

end Sys2Proof.Machine

namespace Sys2Proof.Machine

/-! ### The statements of the family -/

section
variable {s : State} {c : ConfigValues} (hc : s.store.active = some c)
include hc

/-- The follow law's demand, once the governing ratio and the distance are known (R33, R34, R37). -/
theorem followSample_of_following (hw : s.spreadWithin c)
    (hp : s.phases.phase = .lift ∨ s.phases.phase = .lower) (ha : hasArrived s = false)
    {ratio distance : Nat} (hr : governingRatio c s = ratio)
    (hd : approachSpeed c (distanceToGo s) = min c.fields.vNom.toNat (4 * distance)) :
    let v := min (c.fields.vNom.toNat * ratio / 1024) (min c.fields.vNom.toNat (4 * distance))
    let demand := rampedDemand c s (if v = 0 then 0 else max v c.fields.vCreep.toNat)
    (followSample s).follower.lastDemand = demand ∧
      (followSample s).follower.prevDemand = demand.speed ∧
      (followSample s).phases = s.phases := by
  have hm : s.phases.phase.isMotion = true := by rcases hp with hp | hp <;> rw [hp] <;> rfl
  obtain ⟨hphases, hdemand⟩ := followSample_of_going hc (spreadCheck_of_within hc hw) hm ha
  rw [wantedSpeed_of_follow hp, followSpeed, hr, hd, creepFloor] at hdemand
  exact ⟨hdemand, by rw [followSample_prevDemand hc, hdemand], hphases⟩

/-- With no ratio LIFT and LOWER hand 0, a spread or an arrival included (R35). -/
theorem followSample_of_noRatio (hp : s.phases.phase = .lift ∨ s.phases.phase = .lower)
    (hr : governingRatio c s = 0) : (followSample s).follower.lastDemand.speed = 0 := by
  rcases followSample_lastDemand_cases hc with hd | ⟨-, hd⟩
  · rw [hd]
    rfl
  · rw [hd, wantedSpeed_of_noRatio hp hr, ite_self]
    exact Nat.le_zero.1 (rampedDemand_speed_le c s 0).1

end

/-- Settles O24: in each phase the ratio written out is the governing ratio. -/
theorem followLawDemand : Obligations.FollowLawDemand := by
  unfold Obligations.FollowLawDemand
  intro s c h goal hc hh hw
  have hown := State.ownHeight_eq hh
  refine ⟨fun hp ht hgo ratio v hratio hv speed hspeed => ?_,
    fun hp hbottom hgoal hgo ratio v hratio hv speed hspeed => ?_⟩
  · have htarget : (effectiveTarget s).1 = goal := by
      rw [effectiveTarget_of_target ht (by simp [hp])]
    have ha := not_hasArrived_lift hh htarget hp hgo
    have hr : governingRatio c s = ratio := by
      rw [hratio]
      cases hn : neighbourHeights c s.peers .lift allSlots with
      | none => exact governingRatio_of_none (hp ▸ hn)
      | some hs =>
        rw [governingRatio_of_some (hp ▸ hn), hp, groupHeights_lift, hown, followRatio_eq,
          followRatio_eq]
        rfl
    have hd := approachSpeed_sub c goal h
    rw [← distanceToGo_of_lift hh htarget hp] at hd
    have hdemand := followSample_of_following hc hw (Or.inl hp) ha hr hd
    subst hspeed hv
    simpa only [rampedDemand, hp, Phase.direction] using hdemand
  · have hdown : s.phases.phase.direction = some .down := by rw [hp]; rfl
    have htarget : (effectiveTarget s).1 = goal :=
      (effectiveTarget_of_lower hh hp).trans hgoal.symm
    have ha := not_hasArrived_down hh htarget hdown hgo hbottom
    have hr : governingRatio c s = ratio := by
      rw [hratio]
      cases hn : neighbourHeights c s.peers .lower allSlots with
      | none => exact governingRatio_of_none (hp ▸ hn)
      | some hs =>
        rw [governingRatio_of_some (hp ▸ hn), hp, hown, followRatio_eq, followRatio_eq]
        rfl
    have hd := approachSpeed_sub c h goal
    rw [← distanceToGo_of_down hh htarget hdown] at hd
    have hdemand := followSample_of_following hc hw (Or.inr hp) ha hr hd
    subst hspeed hv
    simpa only [rampedDemand, hp, Phase.direction] using hdemand

/-- Settles O25: a lead of one allowance, or a slot without a PRESENT entry, leaves no ratio. -/
theorem leadAtAllowanceStops : Obligations.LeadAtAllowanceStops := by
  unfold Obligations.LeadAtAllowanceStops
  intro s c h hc _ hh
  refine ⟨fun hp hlead => followSample_of_noRatio hc (Or.inl hp) ?_,
    fun hp hlead => followSample_of_noRatio hc (Or.inr hp) ?_,
    fun hp hslot => followSample_of_noRatio hc hp ?_⟩
  · have hcounts (e : PeerEntry) : reportCounts s.phases.phase e = true := by rw [hp]; rfl
    rcases hlead with ⟨slot, e, hslot, hle⟩ | ⟨e, he, hpresent, hle⟩
    · exact governingRatio_of_neighbourLead hslot (hcounts e) (le_leadOver_lift hh hp hle)
    · exact governingRatio_of_groupLead he hpresent (hcounts e) (le_leadOver_lift hh hp hle)
  · rcases hlead with ⟨slot, e, hslot, hphase, hle⟩ | ⟨e, he, hpresent, hphase, hle⟩
    · exact governingRatio_of_neighbourLead hslot ((reportCounts_iff _ e).2 fun _ => hphase)
        (le_leadOver_lower hh hp hle)
    · exact governingRatio_of_groupLead he hpresent ((reportCounts_iff _ e).2 fun _ => hphase)
        (le_leadOver_lower hh hp hle)
  · obtain ⟨slot, hslot⟩ := hslot
    exact governingRatio_of_none
      ((neighbourHeights_eq_none_iff ..).2 ⟨slot, mem_allSlots slot, hslot⟩)

/-! The parts of O26. -/

section
variable {s : State} {c : ConfigValues} (hc : s.store.active = some c)
include hc

/-- Every demand lies within V_NOM and the ramp, its duty within 1 000 (R37, R39). -/
theorem followSample_demand_le (hr : c.related = true) :
    (followSample s).follower.lastDemand.speed ≤ c.fields.vNom.toNat ∧
      (followSample s).follower.lastDemand.speed ≤
        s.follower.prevDemand + c.fields.rampStep.toNat ∧
      (followSample s).follower.lastDemand.duty ≤ 1000 := by
  rcases followSample_lastDemand_cases hc with hd | ⟨-, hd⟩
  · simp [hd, stoppedDemand]
  · have hv : (if hasArrived s then 0 else wantedSpeed c s) ≤ c.fields.vNom.toNat := by
      split
      · exact Nat.zero_le _
      · exact wantedSpeed_le hr s
    obtain ⟨hwanted, hstep⟩ :=
      rampedDemand_speed_le c s (if hasArrived s then 0 else wantedSpeed c s)
    rw [hd]
    exact ⟨hwanted.trans hv, hstep, Nat.min_le_right ..⟩

/-- In SEEK the column rises at V_CREEP (R36). -/
theorem followSample_seek (hp : s.phases.phase = .seek) :
    (followSample s).follower.lastDemand = rampedDemand c s c.fields.vCreep.toNat := by
  have hs : spreadCheck s = s := spreadCheck_of_unloaded (by rw [hp]; rfl)
  have ha : hasArrived s = false := by simp only [hasArrived, hp]
  have hwanted : wantedSpeed c s = c.fields.vCreep.toNat := by simp only [wantedSpeed, hp]
  rw [(followSample_of_going hc hs (by rw [hp]; rfl) ha).2, hwanted]

/-- In RETRACT, short of its target, it comes down at the approach speed with the creep floor
(R36). -/
theorem followSample_retract {h goal : Nat} (hh : s.sensors.height = some h)
    (hp : s.phases.phase = .retract) (ht : s.phases.target = some goal) (hgo : goal + 2 < h)
    (hbottom : lineActive s 2 = false) :
    (followSample s).phases = s.phases ∧
      (followSample s).follower.lastDemand =
        rampedDemand c s (creepFloor c (min c.fields.vNom.toNat (4 * (h - goal)))) := by
  have hs : spreadCheck s = s := spreadCheck_of_unloaded (by rw [hp]; rfl)
  have hdown : s.phases.phase.direction = some .down := by rw [hp]; rfl
  have htarget : (effectiveTarget s).1 = goal := by
    rw [effectiveTarget_of_target ht (by simp [hp])]
  have ha := not_hasArrived_down hh htarget hdown hgo hbottom
  have hwanted : wantedSpeed c s = creepFloor c (min c.fields.vNom.toNat (4 * (h - goal))) := by
    simp only [wantedSpeed, hp, distanceToGo_of_down hh htarget hdown, approachSpeed_sub]
  rw [← hwanted]
  exact followSample_of_going hc hs (by rw [hp]; rfl) ha

end

/-- Where the phase is a stopped one, so is the phase after the spread check. -/
theorem spreadCheck_isMotion {s : State} (hp : s.phases.phase.isMotion = false) :
    (spreadCheck s).phases.phase.isMotion = false := by
  rcases spreadCheck_eq_self_or_halted s with hs | hhalted
  · rw [hs, hp]
  · rw [hhalted]
    rfl

/-- A demand handed restarts the demand timer and sets the duty line (R110). -/
theorem handDemand_eq (d : Demand) (s : State) :
    handDemand d s =
      { s with
        follower := { s.follower with prevDemand := d.speed, lastDemand := d }
        drive :=
          { s.drive with
            demandTimer := some 30
            duty :=
              if s.drive.state = .running ∧ d.direction = some s.drive.direction then d.duty
              else 0 } } := by
  have hduty : dutyAfterDemand s.drive d =
      if s.drive.state = .running ∧ d.direction = some s.drive.direction then d.duty else 0 := by
    simp only [dutyAfterDemand, Bool.and_eq_true, decide_eq_true_eq, beq_iff_eq]
  rw [handDemand, hduty]
  rfl

/-- Settles O26: the bounds, the demands of SEEK and RETRACT, and the handing, each by its lemma
above. -/
theorem demandWithinRampSetsDuty : Obligations.DemandWithinRampSetsDuty := by
  unfold Obligations.DemandWithinRampSetsDuty
  refine ⟨fun s c hc hr => ?_, fun s c h hc hh speed hspeed => ⟨fun hp => ?_, ?_⟩,
    fun s d => handDemand_eq d s⟩
  · obtain ⟨hnom, hstep, hduty⟩ := followSample_demand_le hc hr
    exact ⟨hnom, hstep, hduty, followSample_prevDemand hc,
      fun hp => (followSample_of_stopped hc (spreadCheck_isMotion hp)).2⟩
  · rw [followSample_seek hc hp, hspeed, rampedDemand, hp]
    rfl
  · intro goal v hp ht hgo hbottom hv
    rw [(followSample_retract hc hh hp ht hgo hbottom).2, hspeed, hv, rampedDemand, hp]
    rfl

/-- A column that is not HALTED has no cause latched (R64). -/
theorem causes_eq_nil_of_haltExact {s : State} (hx : s.haltExact)
    (hp : s.phases.phase ≠ .halted) : s.phases.causes = [] := by
  obtain ⟨hexact, -⟩ := hx
  by_contra hne
  exact hp (hexact.2 (Or.inl hne))

/-- Settles O27: beyond the spread the check reports, within it nothing does. -/
theorem spreadHaltsLoadedColumn : Obligations.SpreadHaltsLoadedColumn := by
  unfold Obligations.SpreadHaltsLoadedColumn
  intro s c hc hx hp
  have hloaded : s.phases.phase.isLoaded = true := by
    rcases hp with hp | hp | hp | hp <;> rw [hp] <;> rfl
  have hdrops : s.phases.phase.dropsReports = false := by
    rcases hp with hp | hp | hp | hp <;> rw [hp] <;> rfl
  have hnil : s.phases.causes = [] :=
    causes_eq_nil_of_haltExact hx (by rcases hp with hp | hp | hp | hp <;> simp [hp])
  refine ⟨fun hw => ?_, fun hw => ?_⟩
  · have hs := spreadCheck_of_beyond hc hloaded hw
    obtain ⟨hcauses, hphase, -⟩ :=
      report_of_new (cause := .spread) hdrops (by simp [hnil])
    rw [← hs] at hcauses hphase
    obtain ⟨hkept, hdemand⟩ := followSample_of_stopped hc (by rw [hphase]; rfl)
    rw [hkept, hcauses, hnil]
    exact ⟨hphase, rfl, hdemand⟩
  · have hkept : (afterArrivalTest s).phases.causes = s.phases.causes := by
      unfold afterArrivalTest
      split
      · exact arrive_causes _ s
      · rfl
    rw [followSample_phases hc (spreadCheck_of_within hc hw), hkept, hnil]
    exact List.not_mem_nil

/-- What a sample does in LOWER, the effective target known (R32, R59). -/
theorem followSample_lower {s : State} {c : ConfigValues} {h goal : Nat} {atMark : Bool}
    (hc : s.store.active = some c) (hh : s.sensors.height = some h) (hw : s.spreadWithin c)
    (hp : s.phases.phase = .lower) (htarget : effectiveTarget s = (goal, atMark)) :
    (h ≤ goal + 2 ∨ lineActive s 2 = true →
      (followSample s).phases =
        { s.phases with phase := .hold, atTarget := !atMark, atMark := atMark } ∧
      (followSample s).follower.lastDemand.speed = 0) ∧
    (goal + 2 < h → lineActive s 2 = false → (followSample s).phases = s.phases) := by
  have hs := spreadCheck_of_within hc hw
  have hm : s.phases.phase.isMotion = true := by rw [hp]; rfl
  have hdown : s.phases.phase.direction = some .down := by rw [hp]; rfl
  have hgoal : (effectiveTarget s).1 = goal := by rw [htarget]
  refine ⟨fun hnear => ?_, fun hfar hbottom => ?_⟩
  · have harrived := followSample_of_arrived hc hs hm ((hasArrived_down_iff hh hgoal hdown).2 hnear)
    rwa [htarget, arrive_phases_hold (Or.inr hp)] at harrived
  · exact (followSample_of_going hc hs hm (not_hasArrived_down hh hgoal hdown hfar hbottom)).1

/-- Settles O28: the arrival test of each phase, and the phase its arrival leads to. -/
theorem arrivalActsByPhase : Obligations.ArrivalActsByPhase := by
  unfold Obligations.ArrivalActsByPhase
  intro s c h goal hc hh ht
  refine ⟨fun hp hw => ?_, fun hp hw => ⟨fun hmark => ?_, fun mark hmark hlt => ?_⟩, fun hp => ?_⟩
  · have hs := spreadCheck_of_within hc hw
    have hm : s.phases.phase.isMotion = true := by rw [hp]; rfl
    have htarget := effectiveTarget_of_target ht (by simp [hp])
    have hgoal : (effectiveTarget s).1 = goal := by rw [htarget]
    refine ⟨fun hnear => ?_, fun hfar => ?_⟩
    · have harrived :=
        followSample_of_arrived hc hs hm ((hasArrived_lift_iff hh hgoal hp).2 hnear)
      rwa [htarget, arrive_phases_hold (Or.inl hp)] at harrived
    · exact (followSample_of_going hc hs hm (not_hasArrived_lift hh hgoal hp hfar)).1
  · exact followSample_lower hc hh hw hp (effectiveTarget_of_target ht fun _ => hmark)
  · exact followSample_lower hc hh hw hp (effectiveTarget_of_mark hp ht hmark hlt)
  · have hs : spreadCheck s = s := spreadCheck_of_unloaded (by rw [hp]; rfl)
    have htarget := effectiveTarget_of_target ht (by simp [hp])
    have hiff := hasArrived_down_iff hh (by rw [htarget]) (by rw [hp]; rfl)
    refine ⟨fun hnear => ?_,
      fun hfar hbottom => (followSample_retract hc hh hp ht hfar hbottom).1⟩
    have harrived := followSample_of_arrived hc hs (by rw [hp]; rfl) (hiff.2 hnear)
    rwa [arrive_phases_ready hp] at harrived

end Sys2Proof.Machine

/-! ## Column phases: proofs of the family's statements -/

namespace Sys2Proof.Machine

/-! ### The whole of a change of phase (R43) -/

/-- A change of phase starts the drive: it enters a motion phase from outside (R108). -/
def Phase.starts (old new : Phase) : Bool := !old.isMotion && new.isMotion

/-- A change of phase out of a motion phase stops a drive that is not STOPPED yet (R111). -/
def Phase.stops (old new : Phase) (drive : DriveState) : Bool :=
  old.isMotion && !new.isMotion && drive != .stopped

theorem stopDrive_follower (s : State) :
    (stopDrive s).follower =
      if s.drive.state = .stopped then s.follower
      else { s.follower with stallRef := none, stallCounter := 0 } := by
  unfold stopDrive
  split <;> rfl

theorem stopDrive_checks (s : State) :
    (stopDrive s).checks =
      if s.drive.state = .stopped then s.checks
      else { s.checks with stallArmed := false, watched := none, extreme := none } := by
  unfold stopDrive
  split <;> rfl

/-- Own direction in a motion phase, as R108 words it. -/
theorem Phase.direction_getD {p : Phase} (h : p.isMotion = true) (d : Direction) :
    p.direction.getD d = if p = .seek ∨ p = .lift then .up else .down := by
  cases p <;> simp_all [Phase.isMotion, Phase.direction]

/-- "Brake set" ends the stall check's reference and count (R132). -/
theorem driveFollowsPhase_follower (old new : Phase) (s : State) :
    (driveFollowsPhase old new s).follower =
      if old.stops new s.drive.state then
        { s.follower with stallRef := none, stallCounter := 0 }
      else s.follower := by
  unfold driveFollowsPhase
  split
  case h_1 ho hn => simp [Phase.stops, ho]
  case h_2 ho hn =>
    by_cases hd : s.drive.state = .stopped <;> simp [Phase.stops, ho, hn, stopDrive_follower, hd]
  case h_3 ho hn => simp [Phase.stops, hn]
  case h_4 ho hn =>
    simp only [Phase.stops, ho, Bool.false_and, Bool.false_eq_true, if_false]
    split <;> rfl

/-- "Brake set" ends the stall and wrong-direction checks, "brake released" begins the watch anew
and drops the drift reference (R132, R135, R136). -/
theorem driveFollowsPhase_checks (old new : Phase) (s : State) :
    (driveFollowsPhase old new s).checks =
      if old.starts new then
        { s.checks with
          watched := some (if new = .seek ∨ new = .lift then .up else .down)
          extreme := none, driftRef := none }
      else if old.stops new s.drive.state then
        { s.checks with stallArmed := false, watched := none, extreme := none }
      else s.checks := by
  unfold driveFollowsPhase
  split
  case h_1 ho hn =>
    simp [Phase.starts, ho, hn, startDrive, checksBrakeReleased, Phase.direction_getD hn]
  case h_2 ho hn =>
    by_cases hd : s.drive.state = .stopped <;>
      simp [Phase.starts, Phase.stops, ho, hn, stopDrive_checks, hd]
  case h_3 ho hn => simp [Phase.starts, Phase.stops, ho, hn]
  case h_4 ho hn =>
    simp only [Phase.starts, Phase.stops, ho, hn, Bool.and_false, Bool.false_and,
      Bool.false_eq_true, if_false]
    split <;> rfl

theorem changePhase_follower {s : State} {new : Phase} (h : s.phases.phase ≠ new) :
    (changePhase new s).follower =
      { s.follower with
        prevDemand := if new.isMotion then 0 else s.follower.prevDemand
        stallRef := if s.phases.phase.stops new s.drive.state then none else s.follower.stallRef
        stallCounter :=
          if s.phases.phase.stops new s.drive.state then 0 else s.follower.stallCounter } := by
  simp only [changePhase, h, if_false, showPhase_follower, driveFollowsPhase_follower]
  by_cases hn : new.isMotion = true <;>
    by_cases hstop : s.phases.phase.stops new s.drive.state = true <;> simp [hn, hstop]

theorem changePhase_checks {s : State} {new : Phase} (h : s.phases.phase ≠ new) :
    (changePhase new s).checks =
      { s.checks with
        stallArmed :=
          if s.phases.phase.stops new s.drive.state then false else s.checks.stallArmed
        watched :=
          if s.phases.phase.starts new then some (if new = .seek ∨ new = .lift then .up else .down)
          else if s.phases.phase.stops new s.drive.state then none
          else s.checks.watched
        extreme :=
          if s.phases.phase.starts new || s.phases.phase.stops new s.drive.state then none
          else s.checks.extreme
        driftRef := if s.phases.phase.starts new then none else s.checks.driftRef } := by
  simp only [changePhase, h, if_false, showPhase_checks, driveFollowsPhase_checks]
  by_cases hstart : s.phases.phase.starts new = true
  · have hstop : s.phases.phase.stops new s.drive.state = false := by
      simp_all [Phase.starts, Phase.stops]
    by_cases hn : new.isMotion = true <;> simp [hstart, hstop, hn]
  · by_cases hn : new.isMotion = true <;>
      by_cases hstop : s.phases.phase.stops new s.drive.state = true <;> simp [hstart, hstop, hn]

/-- The lamps show the phase entered, and none of them blinks (R86, R87). -/
theorem changePhase_pendant {s : State} {new : Phase} (h : s.phases.phase ≠ new) :
    (changePhase new s).pendant =
      { s.pendant with
        lampReady := decide (new = .ready ∨ new = .hold), lampMoving := new.isMotion
        lampFault := decide (new = .halted), blinkTimer := none } := by
  have hlamps (p : Phase) : lampsOf p =
      (decide (p = .ready ∨ p = .hold), p.isMotion, decide (p = .halted)) := by
    cases p <;> rfl
  simp only [changePhase, h, if_false]
  split <;> cases hb : s.pendant.blinkTimer <;>
    simp [showPhase, updateBlink, setAtTarget, hlamps, hb]

/-- Two states agree when their blocks do. -/
theorem State.eq_of_blocks {s t : State} (hpeers : s.peers = t.peers)
    (hscan : s.scanTimer = t.scanTimer) (hphases : s.phases = t.phases)
    (hfollower : s.follower = t.follower) (hchecks : s.checks = t.checks)
    (hsensors : s.sensors = t.sensors) (hdrive : s.drive = t.drive) (hguards : s.guards = t.guards)
    (hpendant : s.pendant = t.pendant) (hline : s.line = t.line) (hstore : s.store = t.store)
    (hresets : s.resetsApplied = t.resetsApplied) (hfree : s.freeCount = t.freeCount)
    (hpending : s.pending = t.pending) : s = t := by
  cases s
  cases t
  simp_all

/-- Settles O33: each block by its lemma, the others untouched. -/
theorem changeOfPhaseEffects : Obligations.ChangeOfPhaseEffects := by
  unfold Obligations.ChangeOfPhaseEffects
  intro s new
  refine ⟨fun h => h ▸ changePhase_same s, fun h starts stops hstarts hstops => ?_⟩
  obtain rfl : starts = s.phases.phase.starts new := by
    rw [Bool.eq_iff_iff, hstarts]
    simp [Phase.starts]
  obtain rfl : stops = s.phases.phase.stops new s.drive.state := by
    rw [Bool.eq_iff_iff, hstops]
    simp [Phase.stops, and_assoc]
  refine State.eq_of_blocks (by simp) (by simp) (changePhase_phases h) (changePhase_follower h)
    (changePhase_checks h) (by simp) (changePhase_drive_of_ne s new h) (by simp)
    (changePhase_pendant h) ((changePhase_line h).trans ?_) (by simp) (by simp) (by simp) (by simp)
  cases s.line.tx <;> rfl

/-! ### A reset -/

/-- Settles O4: the release starts the column, and `resetPart` writes both blocks. -/
theorem resetSetsPhasesAndSensors : Obligations.ResetSetsPhasesAndSensors := by
  unfold Obligations.ResetSetsPhasesAndSensors
  intro kind inputs s happlied
  exact ⟨resetPart kind inputs s, congrArg _ (release_of_last kind inputs happlied), rfl, rfl⟩

end Sys2Proof.Machine

namespace Sys2Proof.Machine

/-! ### The loss of a column (R63) -/

theorem lostNotice_of_starting {s : State} (h : s.phases.phase.isStarting = true) (station : Nat) :
    lostNotice s station = s := by
  unfold lostNotice
  split
  case h_9 | h_10 | h_11 => rfl
  all_goals rename_i hp; rw [hp] at h; exact absurd h (by decide)

theorem lostNotice_of_ready {s : State} (h : s.phases.phase = .ready) (station : Nat) :
    lostNotice s station = changePhase .listen s := by
  rw [lostNotice, h]

/-- The phases in which the loss of a column latches PEER_SILENT: the moving and loaded ones and
HALTED (R63). -/
theorem lostNotice_of_latching {s : State} (hs : s.phases.phase.isStarting = false)
    (hr : s.phases.phase ≠ .ready) (station : Nat) :
    lostNotice s station = report .peerSilent s := by
  unfold lostNotice
  split
  case h_1 hp => exact absurd hp hr
  case h_9 hp | h_10 hp | h_11 hp => rw [hp] at hs; exact absurd hs (by decide)
  all_goals rfl

/-- The notices of one scan after the first change nothing where the first left the column in a
starting phase. -/
theorem lostNotices_of_starting {s : State} (h : s.phases.phase.isStarting = true)
    (stations : List Nat) : stations.foldl lostNotice s = s := by
  induction stations with
  | nil => rfl
  | cons n rest ih => rw [List.foldl_cons, lostNotice_of_starting h, ih]

/-- Nor do they where PEER_SILENT is latched already (R120). -/
theorem lostNotices_of_latched {s : State} (hp : s.phases.phase = .halted)
    (hc : .peerSilent ∈ s.phases.causes) (stations : List Nat) :
    stations.foldl lostNotice s = s := by
  induction stations with
  | nil => rfl
  | cons n rest ih =>
    have hn : lostNotice s n = s := by
      rw [lostNotice_of_latching (by rw [hp]; rfl) (by simp [hp]), report_of_known hc]
    rw [List.foldl_cons, hn, ih]

/-- A report that is not dropped leaves its cause in the list (R120). -/
theorem mem_causesWith {s : State} {cause : Cause} (h : s.phases.phase.dropsReports = false) :
    cause ∈ s.causesWith cause := by
  rw [← Bool.not_eq_true, Phase.dropsReports_iff, not_or] at h
  simp only [State.causesWith, h, false_or]
  split
  · assumption
  · exact List.mem_append_right _ (List.mem_singleton.2 rfl)

theorem lostByScan_ne_nil {peers : List PeerEntry}
    (h : ∃ e ∈ peers, e.presence = .present ∧ e.silence ≤ 1) : lostByScan peers ≠ [] := by
  obtain ⟨e, he, hpresent, hsilence⟩ := h
  refine List.ne_nil_of_mem (List.mem_map_of_mem (List.mem_filter.2 ⟨he, ?_⟩))
  simp [agePeer, hpresent, hsilence]

/-- A scan that makes an entry LOST hands on at least one notice. -/
theorem silenceScan_of_lost {s : State}
    (h : ∃ e ∈ s.peers, e.presence = .present ∧ e.silence ≤ 1) :
    ∃ (first : Nat) (rest : List Nat), silenceScan s =
      rest.foldl lostNotice (lostNotice (updateBlink s.scanned) first) := by
  obtain ⟨first, rest, hlost⟩ := List.exists_cons_of_ne_nil (lostByScan_ne_nil h)
  exact ⟨first, rest, by rw [silenceScan_eq, hlost]; rfl⟩

/-- Settles O10: the first notice acts by phase, and leaves the others nothing to do. -/
theorem lostNoticeActsByPhase : Obligations.LostNoticeActsByPhase := by
  unfold Obligations.LostNoticeActsByPhase
  intro s hfree hx hlost
  obtain ⟨first, rest, hscan⟩ := silenceScan_of_lost hlost
  have hphases : (updateBlink s.scanned).phases = s.phases := updateBlink_phases _
  generalize updateBlink s.scanned = u at hscan hphases
  refine ⟨silenceScan s, running_of_free hfree, fun hp => ?_, fun hp => ?_, fun hp => ?_⟩
  · have hs : u.phases.phase.isStarting = true := by
      rwa [hphases, Phase.isStarting_iff_eq]
    rw [hscan, lostNotice_of_starting hs, lostNotices_of_starting hs, hphases]
  · have hnil := causes_eq_nil_of_haltExact hx (by simp [hp])
    rw [hscan, lostNotice_of_ready (by rw [hphases, hp]),
      lostNotices_of_starting (by simp [Phase.isStarting]), changePhase_phase, changePhase_causes,
      hphases]
    exact ⟨rfl, hnil⟩
  · have hlatch : u.phases.phase.isStarting = false ∧ u.phases.phase ≠ .ready ∧
        u.phases.phase.dropsReports = false := by
      rw [hphases]
      rcases hp with hp | hp | hp | hp | hp | hp | hp <;> rw [hp] <;> decide
    obtain ⟨hs, hr, hd⟩ := hlatch
    have hux : u.haltExact := by
      simpa only [State.haltExact, hphases] using hx
    have hcauses : (report .peerSilent u).phases.causes = s.causesWith .peerSilent := by
      rw [report_causes, State.causesWith, State.causesWith, hphases]
    have hphase : (report .peerSilent u).phases.phase = .halted := by
      rw [← Bool.not_eq_true, Phase.dropsReports_iff] at hd
      rw [report_phase u _ hux, State.phaseWithCause, if_neg hd]
    have hmem : .peerSilent ∈ (report .peerSilent u).phases.causes := by
      rw [report_causes]
      exact mem_causesWith hd
    rw [hscan, lostNotice_of_latching hs hr, lostNotices_of_latched hphase hmem]
    exact ⟨hphase, hcauses⟩

end Sys2Proof.Machine

namespace Sys2Proof.Machine

/-! ### The phase rules at a sample (R46, R47, R53, R54) -/

theorem positionRules_of_seek {s : State} (h : s.phases.phase = .seek) (valid : Bool) :
    positionRules valid s =
      if s.sensors.contact then enterSeated s
      else if seekTooFar s then report .noContact s
      else s := by
  simp only [positionRules, h]

theorem seekTooFar_iff {s : State} {c : ConfigValues} {h start : Nat}
    (hc : s.store.active = some c) (hh : s.sensors.height = some h)
    (hstart : s.phases.seekStart = some start) :
    seekTooFar s = true ↔ start + c.tol.seekMax.toNat < h := by
  simp [seekTooFar, hc, State.ownHeight_eq hh, hstart]

/-- In INIT a valid position sample makes its progress item yes (R46). -/
theorem positionRules_of_init {s : State} (h : s.phases.phase = .init) (valid : Bool) :
    positionRules valid s =
      exitInit true
        (s.setPhases { s.phases with positionSeen := s.phases.positionSeen || valid }) := by
  unfold positionRules
  split
  case h_1 =>
    cases valid
    · rw [Bool.or_false]
      rfl
    · rw [Bool.or_true]
      rfl
  all_goals simp_all

/-- Outside INIT and SEEK no phase rule takes the sample. -/
theorem positionRules_of_other {s : State} (hi : s.phases.phase ≠ .init)
    (hk : s.phases.phase ≠ .seek) (valid : Bool) : positionRules valid s = s := by
  unfold positionRules
  split
  case h_1 hp => exact absurd hp hi
  case h_2 hp => exact absurd hp hk
  all_goals rfl

theorem loadRules_of_other {s : State} (hi : s.phases.phase ≠ .init) : loadRules s = s := by
  unfold loadRules
  split
  case h_1 hp => exact absurd hp hi
  all_goals rfl

theorem loadRules_of_init {s : State} (h : s.phases.phase = .init) :
    loadRules s = exitInit false (s.setPhases { s.phases with loadSeen := true }) := by
  simp only [loadRules, h]

/-- The column has no usable configuration or station (R47). -/
def State.unusable (s : State) : Prop :=
  s.store.active = none ∨ s.store.station = 0#6 ∨ 48 < s.store.station.toNat

theorem unusable_iff (s : State) :
    s.unusable ↔ (s.store.active.isNone || !isColumnStation s.store.station) = true := by
  rw [Bool.or_eq_true, Bool.not_eq_true', ← Bool.not_eq_true, isColumnStation_iff,
    Option.isNone_iff_eq_none, State.unusable, not_and_or, not_not, Nat.not_le]

theorem exitInit_of_unusable {s : State} (h : s.unusable) (x : PhaseBlock) (atPosition : Bool) :
    exitInit atPosition (s.setPhases x) =
      if atPosition then changePhase .unconfigured (s.setPhases x) else s.setPhases x :=
  if_pos ((unusable_iff s).1 h)

theorem exitInit_of_usable {s : State} (h : ¬s.unusable) (x : PhaseBlock) (atPosition : Bool) :
    exitInit atPosition (s.setPhases x) =
      if x.positionSeen && x.loadSeen then enterListenFromInit (s.setPhases x)
      else s.setPhases x :=
  if_neg (mt (unusable_iff s).2 h)

/-! ### The entry into LISTEN from INIT (R48, R144) -/

theorem setBit8_of_set {v : BitVec 8} {i : Fin 8} (h : v.getLsbD i.val = true) :
    setBit8 v i true = v := by
  refine BitVec.eq_of_getLsbD_eq fun j hj => ?_
  rw [setBit8_getLsbD v i ⟨j, hj⟩]
  split
  case isTrue heq => rw [← h, ← heq]
  case isFalse => rfl

/-- A pending latch set again stands. -/
theorem setPending_of_pending {s : State} {i : Fin 8} (h : s.guards.pending.getLsbD i.val = true) :
    setPending i s = s := by
  rw [setPending, setBit8_of_set h]
  rfl

theorem lineActive_iff {s : State} {c : ConfigValues} (hc : s.store.active = some c) (i : Fin 8) :
    lineActive s i = true ↔
      c.fields.guardEnable.getLsbD i.val = true ∧
        s.guards.levels.getLsbD i.val = c.fields.guardPolarity.getLsbD i.val := by
  simp [lineActive, hc, ConfigValues.guardEnabled, ConfigValues.guardActiveLevel]

/-- An active edge of G2 means nothing in LISTEN and HALTED (R147). -/
theorem bottomEdge_of_still {s : State}
    (hp : s.phases.phase = .listen ∨ s.phases.phase = .halted) : bottomEdge s = s := by
  rcases hp with hp | hp <;> simp only [bottomEdge, hp]

/-- In LISTEN and HALTED every other line latches and reports (R141). -/
theorem guardEdge_of_still {s : State} {i : Fin 8} (hi : i ≠ 2)
    (hp : s.phases.phase = .listen ∨ s.phases.phase = .halted) :
    guardEdge i s = reportGuard i (setPending i s) := by
  rcases hp with hp | hp <;> simp only [guardEdge, hi, hp, if_false]

theorem pseudoEdge_eq_lineTaken {s : State} {c : ConfigValues} (hc : s.store.active = some c)
    (hp : s.phases.phase = .listen ∨ s.phases.phase = .halted) (i : Fin 8) :
    pseudoEdge s i = State.lineTaken c s i := by
  have htaken : State.lineTaken c s i =
      if c.fields.guardEnable.getLsbD i.val = true ∧
          (s.guards.pending.getLsbD i.val = true ∨
            (i ≠ 2 ∧ s.guards.levels.getLsbD i.val = c.fields.guardPolarity.getLsbD i.val)) then
        reportGuard i (setPending i s)
      else s := rfl
  have hactive := lineActive_iff hc i
  rw [htaken]
  simp only [pseudoEdge, hc, ConfigValues.guardEnabled, Bool.not_eq_true']
  by_cases hen : c.fields.guardEnable.getLsbD i.val = true
  · by_cases hpend : s.guards.pending.getLsbD i.val = true
    · simp only [hen, hpend, Bool.true_eq_false, if_false, if_true, true_and, true_or,
        setPending_of_pending hpend]
    · simp only [hen, hpend, hactive, Bool.true_eq_false, Bool.false_eq_true, if_false, true_and,
        false_or]
      by_cases hi : i = 2
      · have hedge : guardEdge i s = s := by rw [guardEdge, if_pos hi, bottomEdge_of_still hp]
        simp only [hi ▸ hedge, hi, ne_eq, not_true_eq_false, false_and, if_false, ite_self]
      · simp only [guardEdge_of_still hi hp, hi, ne_eq, not_false_eq_true, true_and]
  · simp only [hen, Bool.false_eq_true, false_and, if_false, if_true]

theorem report_phase_still {s : State} (cause : Cause)
    (hp : s.phases.phase = .listen ∨ s.phases.phase = .halted) :
    (report cause s).phases.phase = .listen ∨ (report cause s).phases.phase = .halted := by
  rcases report_eq_self_or_halted cause s with h | h
  · rwa [h]
  · exact Or.inr h

/-- A line taken in LISTEN leaves the column there or halts it. -/
theorem lineTaken_phase_still {s : State} (c : ConfigValues) (i : Fin 8)
    (hp : s.phases.phase = .listen ∨ s.phases.phase = .halted) :
    (State.lineTaken c s i).phases.phase = .listen ∨
      (State.lineTaken c s i).phases.phase = .halted := by
  unfold State.lineTaken
  split
  · refine report_phase_still _ ?_
    split
    · rwa [requestCommand_phases]
    · exact hp
  · exact hp

theorem pseudoEdges_eq_lineTaken {s : State} {c : ConfigValues} (hc : s.store.active = some c)
    (hp : s.phases.phase = .listen ∨ s.phases.phase = .halted) (lines : List (Fin 8)) :
    lines.foldl pseudoEdge s = lines.foldl (State.lineTaken c) s := by
  induction lines generalizing s with
  | nil => rfl
  | cons i rest ih =>
    have heq := pseudoEdge_eq_lineTaken hc hp i
    rw [List.foldl_cons, List.foldl_cons, heq]
    exact ih (by rw [← heq, pseudoEdge_store, hc]) (lineTaken_phase_still c i hp)

/-- Settles O30: SEEK, the entry into LISTEN, and INIT, each by its lemmas above. -/
theorem phaseRulesAtSample : Obligations.PhaseRulesAtSample := by
  unfold Obligations.PhaseRulesAtSample
  intro s valid
  refine ⟨fun hp hcontact => ?_, fun c h start hp hcontact hc hh hstart => ?_,
    fun c x hc hp hx => ?_, fun hp => ⟨fun hu => ?_, fun hc hlo hhi => ?_⟩⟩
  · rw [positionRules_of_seek hp, if_pos hcontact, enterSeated_phase]
  · have hfar := seekTooFar_iff hc hh hstart
    rw [positionRules_of_seek hp, hcontact]
    exact ⟨fun hle => by simp [hfar, hle], fun hlt => by simp [hfar, hlt]⟩
  · have hedges : guardLines.foldl pseudoEdge (changePhase .listen s) = x := by
      rw [hx]
      exact pseudoEdges_eq_lineTaken (by rw [changePhase_store, hc])
        (Or.inl (changePhase_phase _ _)) guardLines
    have hcomplete : groupComplete x = groupComplete s := by
      rw [← hedges]
      exact groupComplete_congr (by simp) (by simp)
    have hcontact : x.sensors = s.sensors := by
      rw [← hedges]
      simp
    have henter : enterListenFromInit s =
        if x.phases.phase = .listen && groupComplete s then
          changePhase (if s.sensors.contact then .hold else .ready) x
        else x := by
      simp only [enterListenFromInit, hedges, hcomplete, leaveListen, hcontact]
    rw [henter]
    refine ⟨fun hlisten hgroup => by simp [hlisten, hgroup], fun hstay => ?_⟩
    rcases hstay with hstay | hstay <;> simp [hstay]
  · rw [positionRules_of_init hp, loadRules_of_init hp, exitInit_of_unusable hu,
      exitInit_of_unusable hu]
    exact ⟨changePhase_phase _ _, rfl⟩
  · have hu : ¬s.unusable := by
      rintro (h | h | h)
      · exact hc h
      · rw [h] at hlo
        exact absurd hlo (by decide)
      · omega
    rw [positionRules_of_init hp, loadRules_of_init hp, exitInit_of_usable hu,
      exitInit_of_usable hu]
    refine ⟨fun hpos hload => ?_, fun hmiss => ?_, fun hpos => ?_, fun hpos => ?_⟩
    · simp only [hpos, hload, Bool.and_self, if_true]
      rfl
    · rw [if_neg (by rcases hmiss with hmiss | hmiss <;> simp only [hmiss] <;> simp)]
      rfl
    · simp only [hpos, Bool.and_self, if_true]
      rfl
    · simp only [hpos, Bool.false_and, Bool.false_eq_true, if_false]
      rfl

end Sys2Proof.Machine

namespace Sys2Proof.Machine

/-! ### The bounds, block by block -/

/-- The queues and the error count lie within their bounds (R160, R162, R166). -/
def LineBlock.within (l : LineBlock) : Prop :=
  l.queue.length ≤ txQueueSize ∧ l.rxQueue.length ≤ rxQueueSize ∧ l.errors ≤ maxTransmitErrors

/-- The counts, runs, height and load lie within their bounds (R90, R95, R96, R98, R101, R102). -/
def SensorBlock.within (p : SensorBlock) : Prop :=
  p.overrunCount ≤ badSampleLimit ∧ p.invalidCount ≤ badSampleLimit ∧
    p.contactRun < contactSamples ∧ p.overloadRun ≤ 24 ∧ p.height.getD 0 ≤ maxHeight ∧
    p.load.getD 0 ≤ maxLoad

/-- Target, mark and seated count lie within their bounds (R42). -/
def PhaseBlock.within (p : PhaseBlock) : Prop :=
  p.target.getD 0 ≤ maxHeight ∧ p.mark.getD 0 ≤ maxHeight ∧ p.seatedCount ≤ 47

/-- `bounded`, gathered by block, and the table invariants, which bound the seated count and the
stored load. -/
structure State.confined (s : State) : Prop where
  line : s.line.within
  sensors : s.sensors.within
  phases : s.phases.within
  stall : s.follower.stallCounter < stallSamples
  pointer : s.store.tolPointer ≤ 5
  resets : s.resetsApplied ≤ resetSources
  sound : s.tableAndConfigSound

theorem confined_of_bounded {s : State} (h : s.bounded) (hsound : s.tableAndConfigSound) :
    s.confined := by
  obtain ⟨hq, hrx, herr, hover, hinv, hcontact, hload, hstall, hptr, hheight, hld, htarget, hmark,
    hseated, hresets⟩ := h
  exact ⟨⟨hq, hrx, herr⟩, ⟨hover, hinv, hcontact, hload, hheight, hld⟩, ⟨htarget, hmark, hseated⟩,
    hstall, hptr, hresets, hsound⟩

theorem bounded_of_confined {s : State} (h : s.confined) : s.bounded := by
  obtain ⟨⟨hq, hrx, herr⟩, ⟨hover, hinv, hcontact, hload, hheight, hld⟩, ⟨htarget, hmark, hseated⟩,
    hstall, hptr, hresets, -⟩ := h
  exact ⟨hq, hrx, herr, hover, hinv, hcontact, hload, hstall, hptr, hheight, hld, htarget, hmark,
    hseated, hresets⟩

/-! ### What carries the two invariants

One walk over the commands serves `haltExact` and `bounded`: each operation is shown to carry both
from the state before it to the state behind it. -/

/-- Both invariants hold behind an operation where they hold before it, each on its own. -/
structure State.carries (s t : State) : Prop where
  halt : s.haltExact → t.haltExact
  bounds : s.confined → t.confined

theorem State.carries.refl (s : State) : s.carries s := ⟨id, id⟩

theorem State.carries.trans {s t u : State} (hst : s.carries t) (htu : t.carries u) :
    s.carries u := ⟨htu.halt ∘ hst.halt, htu.bounds ∘ hst.bounds⟩

theorem carries_ite {p : Prop} [Decidable p] {s a b : State} (ha : p → s.carries a)
    (hb : ¬p → s.carries b) : s.carries (if p then a else b) := by
  split
  next h => exact ha h
  next h => exact hb h

/-! The setters. -/

theorem setScanTimer_carries (s : State) (x : Nat) : s.carries (s.setScanTimer x) :=
  ⟨id, fun h => { h with }⟩

theorem setChecks_carries (s : State) (x : CheckBlock) : s.carries (s.setChecks x) :=
  ⟨id, fun h => { h with }⟩

theorem setDrive_carries (s : State) (x : DriveBlock) : s.carries (s.setDrive x) :=
  ⟨id, fun h => { h with }⟩

theorem setGuards_carries (s : State) (x : GuardBlock) : s.carries (s.setGuards x) :=
  ⟨id, fun h => { h with }⟩

theorem setPendant_carries (s : State) (x : PendantBlock) : s.carries (s.setPendant x) :=
  ⟨id, fun h => { h with }⟩

theorem setPending_carries (s : State) (x : List Instr) : s.carries (s.setPending x) :=
  ⟨id, fun h => { h with }⟩

theorem setLine_carries {s : State} {x : LineBlock} (h : s.line.within → x.within) :
    s.carries (s.setLine x) :=
  ⟨id, fun hs => { hs with line := h hs.line }⟩

theorem setSensors_carries {s : State} {x : SensorBlock} (h : s.confined → x.within) :
    s.carries (s.setSensors x) :=
  ⟨id, fun hs => { hs with sensors := h hs }⟩

theorem setFollower_carries {s : State} {x : FollowerBlock}
    (h : s.follower.stallCounter < stallSamples → x.stallCounter < stallSamples) :
    s.carries (s.setFollower x) :=
  ⟨id, fun hs => { hs with stall := h hs.stall }⟩

theorem setStore_carries {s : State} {x : StoreBlock} (ha : x.active = s.store.active)
    (hn : x.station = s.store.station) (h : s.store.tolPointer ≤ 5 → x.tolPointer ≤ 5) :
    s.carries (s.setStore x) :=
  ⟨id, fun hs =>
    { hs with
      pointer := h hs.pointer
      sound := tableAndConfigSound_of_table (State.setStore_table ha hn) hs.sound }⟩

/-- A write of the phase block that leaves phase, causes and origin. -/
theorem setPhases_carries {s : State} {x : PhaseBlock} (hphase : x.phase = s.phases.phase)
    (hcauses : x.causes = s.phases.causes) (horigin : x.origin = s.phases.origin)
    (h : s.confined → x.within) : s.carries (s.setPhases x) := by
  refine ⟨fun hs => ?_, fun hs => { hs with phases := h hs }⟩
  simpa only [State.haltExact, State.setPhases_phases, hphase, hcauses, horigin] using hs

theorem setPeers_carries {s : State} {x : List PeerEntry}
    (h : s.tableAndConfigSound → (s.setPeers x).tableAndConfigSound) : s.carries (s.setPeers x) :=
  ⟨id, fun hs => { hs with sound := h hs.sound }⟩

/-! ### The Line Interface -/

theorem fillSlot_carries (s : State) : s.carries (fillSlot s) := setLine_carries id

theorem joinQueue_length (kind : CommandKind) (arg : Word) (queue : List TxCommand) :
    (joinQueue kind arg queue).length = queue.length + 1 := by
  have hsplit :=
    congrArg List.length (List.takeWhile_append_dropWhile (p := fun x => x.kind == .estop)
      (l := queue))
  rw [List.length_append] at hsplit
  cases kind <;> simp [joinQueue]
  omega

theorem dropNewest_length {queue rest : List TxCommand} (h : dropNewest queue = some rest) :
    rest.length + 1 = queue.length := by
  simp only [dropNewest, Option.ite_none_right_eq_some, Option.some.injEq] at h
  obtain ⟨hany, rfl⟩ := h
  obtain ⟨q, hq, hd⟩ := List.any_eq_true.1 hany
  have hpos := List.length_pos_of_mem hq
  rw [List.length_reverse, List.length_eraseP_of_mem (List.mem_reverse.2 hq) hd,
    List.length_reverse]
  omega

/-- A request leaves at most four commands queued (R162). -/
theorem requestQueue_length {kind : CommandKind} {arg : Word} {queue next : List TxCommand}
    (h : requestQueue kind arg queue = some next) (hq : queue.length ≤ txQueueSize) :
    next.length ≤ txQueueSize := by
  unfold requestQueue at h
  split at h
  next hlt =>
    obtain rfl := Option.some.inj h
    rw [joinQueue_length]
    exact hlt
  next =>
    split at h
    case h_3 | h_4 | h_5 | h_6 | h_7 => exact absurd h (by simp)
    all_goals
      obtain ⟨rest, hrest, rfl⟩ := Option.map_eq_some_iff.1 h
      rw [joinQueue_length, dropNewest_length hrest]
      exact hq

theorem requestCommand_carries (kind : CommandKind) (arg : Word) (s : State) :
    s.carries (requestCommand kind arg s) := by
  unfold requestCommand
  refine carries_ite (fun _ => .refl s) fun _ => ?_
  split
  · exact .refl s
  next next hnext =>
    exact setLine_carries fun ⟨hq, hrx, herr⟩ => ⟨requestQueue_length hnext hq, hrx, herr⟩

/-! ### Change of phase and latching -/

theorem updateBlink_carries (s : State) : s.carries (updateBlink s) := by
  unfold updateBlink
  exact carries_ite (fun _ => carries_ite (fun _ => setPendant_carries s _) fun _ => .refl s)
    fun _ => carries_ite (fun _ => setPendant_carries s _) fun _ => .refl s

theorem changePhase_stallCounter_le (new : Phase) (s : State) :
    (changePhase new s).follower.stallCounter ≤ s.follower.stallCounter := by
  by_cases h : s.phases.phase = new
  · rw [← h, changePhase_same]
  · rw [changePhase_follower h]
    simp only
    split <;> omega

/-- Any change of phase stays within the bounds. -/
theorem changePhase_confined {new : Phase} {s : State} (hs : s.confined) :
    (changePhase new s).confined where
  line := by
    have h := hs.line
    obtain ⟨-, -, -, -, -, -, -, -, -, -, -, -, -, -, -, herr, hq, hrx, -⟩ :=
      changePhase_onlyPhaseMoved s new
    simpa only [LineBlock.within, hq, hrx, herr] using h
  sensors := by simpa only [changePhase_sensors] using hs.sensors
  phases := by
    have h := hs.phases
    simpa only [PhaseBlock.within, changePhase_target, changePhase_mark, changePhase_seatedCount]
      using h
  stall := (changePhase_stallCounter_le new s).trans_lt hs.stall
  pointer := by simpa only [changePhase_store] using hs.pointer
  resets := by simpa only [changePhase_resetsApplied] using hs.resets
  sound := tableAndConfigSound_of_table (changePhase_table new s) hs.sound

/-- A part with nothing latched keeps so in every phase but HALTED. -/
theorem haltExact_of_clear {s : State} (hp : s.phases.phase ≠ .halted)
    (hc : s.phases.causes = []) (ho : s.phases.origin = none) : s.haltExact := by
  simp [State.haltExact, hp, hc, ho]

/-- A column that is not HALTED has no cause and no origin latched (R64). -/
theorem clear_of_haltExact {s : State} (hx : s.haltExact) (hp : s.phases.phase ≠ .halted) :
    s.phases.causes = [] ∧ s.phases.origin = none := by
  refine ⟨causes_eq_nil_of_haltExact hx hp, ?_⟩
  obtain ⟨hexact, -⟩ := hx
  rw [← Option.not_isSome_iff_eq_none]
  exact fun h => hp (hexact.2 (Or.inr h))

/-- A change between two phases other than HALTED; HALTED is entered with a latch, and left with an
acknowledgement. -/
theorem changePhase_carries {s : State} {new : Phase} (hs : s.phases.phase ≠ .halted)
    (hnew : new ≠ .halted) : s.carries (changePhase new s) := by
  refine ⟨fun hx => ?_, changePhase_confined⟩
  obtain ⟨hc, ho⟩ := clear_of_haltExact hx hs
  exact haltExact_of_clear (by rwa [changePhase_phase]) (by rw [changePhase_causes, hc])
    (by rw [changePhase_origin, ho])

theorem report_haltExact (cause : Cause) {s : State} (hx : s.haltExact) :
    (report cause s).haltExact := by
  by_cases hd : s.phases.phase.dropsReports = true
  · rwa [report_of_dropped hd]
  by_cases hc : cause ∈ s.phases.causes
  · rwa [report_of_known hc]
  obtain ⟨-, hnodup⟩ := hx
  obtain ⟨hcauses, hphase, -⟩ := report_of_new (Bool.eq_false_iff.2 hd) hc
  simp only [State.haltExact, hcauses, hphase, true_iff]
  refine ⟨Or.inl (by simp), ?_⟩
  rw [List.nodup_append]
  exact ⟨hnodup, List.nodup_singleton _, by simpa using fun a ha (heq : a = cause) => hc (heq ▸ ha)⟩

theorem report_carries (cause : Cause) (s : State) : s.carries (report cause s) := by
  refine ⟨report_haltExact cause, fun hs => ?_⟩
  unfold report
  split
  · exact hs
  · exact (fillSlot_carries _).bounds (changePhase_confined { hs with })

theorem latchPeerHalt_carries (station : Nat) (s : State) :
    s.carries (latchPeerHalt station s) := by
  cases ho : s.phases.origin with
  | some n =>
    rw [latchPeerHalt_of_held (by simp [ho])]
    exact .refl s
  | none =>
    obtain ⟨horigin, hphase, hcauses, -⟩ := latchPeerHalt_of_none ho station
    refine ⟨fun ⟨_, hnodup⟩ => ?_, fun hs => ?_⟩
    · simp only [State.haltExact, horigin, hphase, hcauses]
      exact ⟨by simp, hnodup⟩
    · simp only [latchPeerHalt, ho]
      exact (fillSlot_carries _).bounds (changePhase_confined { hs with })

theorem arriveFrame_carries (frame : RxFrame) (s : State) : s.carries (arriveFrame frame s) := by
  unfold arriveFrame
  refine carries_ite (fun hlt => setLine_carries fun ⟨hq, _, herr⟩ => ⟨hq, ?_, herr⟩) fun _ => ?_
  · rw [List.length_append]
    exact hlt
  · split
    case h_1 =>
      refine carries_ite (fun hany => setLine_carries fun ⟨hq, hrx, herr⟩ => ⟨hq, ?_, herr⟩)
        fun _ => report_carries _ s
      obtain ⟨f, hf, hstatus⟩ := List.any_eq_true.1 hany
      have hpos := List.length_pos_of_mem hf
      rw [List.length_append, List.length_eraseP_of_mem hf hstatus, List.length_singleton]
      omega
    all_goals exact .refl s

end Sys2Proof.Machine

namespace Sys2Proof.Machine

/-! ### Entries into phases -/

theorem foldl_carries {α : Type} {f : State → α → State}
    (h : ∀ (s : State) (a : α), s.carries (f s a)) (l : List α) (s : State) :
    s.carries (l.foldl f s) := by
  induction l generalizing s with
  | nil => exact .refl s
  | cons a rest ih => exact (h s a).trans (ih (f s a))

theorem leaveListen_carries {s : State} (h : s.phases.phase = .listen) :
    s.carries (leaveListen s) :=
  changePhase_carries (by simp [h]) (by split <;> simp)

theorem enterSeek_carries {s : State} (h : s.phases.phase ≠ .halted) : s.carries (enterSeek s) :=
  (changePhase_carries h (by decide)).trans (setPhases_carries rfl rfl rfl fun hs => hs.phases)

/-- The table invariants bound the seated count (R1, R55). -/
theorem evaluateSeating_carries (s : State) : s.carries (evaluateSeating s) := by
  have hcount : s.carries (s.setPhases { s.phases with seatedCount := countSeated s.peers }) := by
    refine setPhases_carries rfl rfl rfl fun hs => ?_
    obtain ⟨htarget, hmark, -⟩ := hs.phases
    obtain ⟨htable, hconfig⟩ := hs.sound
    exact ⟨htarget, hmark, (countSeated_le s.peers).trans (peers_length_le s hconfig htable)⟩
  unfold evaluateSeating
  exact carries_ite
    (fun hp => carries_ite
      (fun _ => hcount.trans (changePhase_carries (by simp [hp]) (by decide))) fun _ => hcount)
    fun _ => .refl s

theorem enterSeated_carries {s : State} (h : s.phases.phase ≠ .halted) :
    s.carries (enterSeated s) :=
  (changePhase_carries h (by decide)).trans (evaluateSeating_carries _)

theorem arrive_carries (atMark : Bool) (s : State) : s.carries (arrive atMark s) := by
  unfold arrive
  split
  case h_1 hp | h_2 hp =>
    refine (changePhase_carries (new := .hold) (by simp [hp]) (by decide)).trans
      (.trans (setPhases_carries ?_ ?_ ?_ fun hs => ?_) (updateBlink_carries _))
    case refine_4 => cases atMark <;> exact hs.phases
    all_goals cases atMark <;> rfl
  case h_3 hp => exact changePhase_carries (by simp [hp]) (by decide)
  all_goals exact .refl s

/-! ### Guard edges -/

theorem reportGuard_carries (i : Fin 8) (s : State) : s.carries (reportGuard i s) :=
  .trans (carries_ite (fun _ => requestCommand_carries _ _ s) fun _ => .refl s)
    (report_carries _ _)

theorem setPending_reportGuard_carries (i : Fin 8) (s : State) :
    s.carries (reportGuard i (setPending i s)) :=
  (setGuards_carries s _).trans (reportGuard_carries i _)

theorem bottomEdge_carries (s : State) : s.carries (bottomEdge s) := by
  unfold bottomEdge
  split
  case h_1 hp => exact changePhase_carries (by simp [hp]) (by decide)
  case h_2 =>
    exact carries_ite (fun _ => (setGuards_carries s _).trans (report_carries _ _))
      fun _ => .refl s
  all_goals exact .refl s

theorem guardEdge_carries (i : Fin 8) (s : State) : s.carries (guardEdge i s) := by
  unfold guardEdge
  refine carries_ite (fun _ => bottomEdge_carries s) fun _ => ?_
  split
  case h_1 => exact .refl s
  case h_2 => exact setGuards_carries s _
  all_goals exact setPending_reportGuard_carries i s

theorem pseudoEdge_carries (s : State) (i : Fin 8) : s.carries (pseudoEdge s i) := by
  unfold pseudoEdge
  split
  · exact .refl s
  · exact carries_ite (fun _ => .refl s) fun _ =>
      carries_ite (fun _ => reportGuard_carries i s) fun _ =>
        carries_ite (fun _ => guardEdge_carries i s) fun _ => .refl s

theorem enterListenFromInit_carries {s : State} (h : s.phases.phase ≠ .halted) :
    s.carries (enterListenFromInit s) := by
  unfold enterListenFromInit
  refine (changePhase_carries (new := .listen) h (by decide)).trans
    ((foldl_carries pseudoEdge_carries guardLines _).trans ?_)
  refine carries_ite (fun hlisten => leaveListen_carries ?_) fun _ => .refl _
  rw [Bool.and_eq_true, decide_eq_true_eq] at hlisten
  exact hlisten.1

/-! ### Acknowledgement (R125, R126) -/

theorem afterRemoval_carries (s : State) (cause : Cause) : s.carries (afterRemoval s cause) := by
  unfold afterRemoval
  split
  · exact setGuards_carries s _
  · split
    case h_1 => exact setChecks_carries s _
    case h_2 => exact setLine_carries fun ⟨hq, hrx, _⟩ => ⟨hq, hrx, Nat.zero_le _⟩
    all_goals exact .refl s

theorem removeCauses_confined {s : State} (hs : s.confined) : (removeCauses s).confined :=
  { (foldl_carries afterRemoval_carries (s.phases.causes.filter (removable s)) s).bounds hs with }

/-- The part with the removable causes and the origin gone, under the next epoch. -/
def State.relieved (s : State) : State :=
  removeCauses (s.setPhases { s.phases with epoch := s.phases.epoch + 1#4 })

theorem relieved_phase (s : State) : s.relieved.phases.phase = s.phases.phase := by
  simp [State.relieved, removeCauses]

theorem relieved_origin (s : State) : s.relieved.phases.origin = none := rfl

theorem relieved_causes (s : State) :
    ∃ keep : Cause → Bool, s.relieved.phases.causes = s.phases.causes.filter keep := ⟨_, rfl⟩

/-- An acknowledgement leaves HALTED when nothing is latched any more (R66, R125). -/
theorem acknowledge_eq (s : State) :
    acknowledge s =
      fillSlot
        (if s.relieved.phases.phase = .halted && s.relieved.phases.causes.isEmpty &&
            s.relieved.phases.origin.isNone then
          changePhase (exitPhase s.relieved) s.relieved
        else s.relieved) := rfl

theorem exitPhase_ne_halted (s : State) : exitPhase s ≠ .halted := by
  unfold exitPhase
  split <;> [split; skip] <;> decide

theorem acknowledge_haltExact {s : State} (hx : s.haltExact) : (acknowledge s).haltExact := by
  obtain ⟨keep, hkeep⟩ := relieved_causes s
  have hphase := relieved_phase s
  have horigin := relieved_origin s
  rw [acknowledge_eq]
  refine (fillSlot_carries _).halt ?_
  split
  next hleave =>
    simp only [Bool.and_eq_true, List.isEmpty_iff] at hleave
    obtain ⟨⟨-, hnil⟩, -⟩ := hleave
    exact haltExact_of_clear (by rw [changePhase_phase]; exact exitPhase_ne_halted _)
      (by rw [changePhase_causes, hnil]) (by rw [changePhase_origin, horigin])
  next hstay =>
    by_cases hp : s.phases.phase = .halted
    · obtain ⟨-, hnodup⟩ := hx
      have hne : s.relieved.phases.causes ≠ [] := fun hnil =>
        hstay (by rw [hphase, hp, hnil, horigin]; rfl)
      refine ⟨?_, hkeep ▸ hnodup.filter keep⟩
      rw [hphase, hp]
      exact ⟨fun _ => Or.inl hne, fun _ => rfl⟩
    · have hnil := causes_eq_nil_of_haltExact hx hp
      exact haltExact_of_clear (hphase ▸ hp) (by rw [hkeep, hnil]; rfl) horigin

theorem acknowledge_carries (s : State) : s.carries (acknowledge s) := by
  refine ⟨acknowledge_haltExact, fun hs => ?_⟩
  have hrelieved : s.relieved.confined := removeCauses_confined { hs with }
  rw [acknowledge_eq]
  refine (fillSlot_carries _).bounds ?_
  split
  · exact changePhase_confined hrelieved
  · exact hrelieved

/-! ### Resets -/

theorem resetPart_carries (kind : ResetKind) (inputs : SampledInputs) (s : State) :
    s.carries (resetPart kind inputs s) where
  halt _ := haltExact_of_clear (s := resetPart kind inputs s) Phase.noConfusion rfl rfl
  bounds _ :=
    { line := ⟨Nat.zero_le _, Nat.zero_le _, Nat.zero_le _⟩
      sensors := ⟨Nat.zero_le _, Nat.zero_le _, Nat.zero_lt_succ _, Nat.zero_le _, Nat.zero_le _,
        Nat.zero_le _⟩
      phases := ⟨Nat.zero_le _, Nat.zero_le _, Nat.zero_le _⟩
      stall := Nat.zero_lt_succ _
      pointer := Nat.zero_le _
      resets := Nat.zero_le _
      sound := resetPart_sound kind inputs s }

theorem release_carries (kind : ResetKind) (inputs : SampledInputs) (s : State) :
    s.carries (release kind inputs s) :=
  carries_ite
    (fun _ => ⟨id, fun hs => { hs with resets := (Nat.sub_le _ _).trans hs.resets }⟩)
    fun _ => resetPart_carries kind inputs s

theorem unmarkSending_length (queue : List TxCommand) :
    (unmarkSending queue).length = queue.length := List.length_map _

/-- A reset that begins to be applied counts to two at most (R183). -/
theorem applyReset_carries (s : State) : s.carries (applyReset s) := by
  refine ⟨id, fun hs => { hs with line := ?_, resets := Nat.min_le_right _ _ }⟩
  obtain ⟨hq, hrx, herr⟩ := hs.line
  exact ⟨(unmarkSending_length _).trans_le hq, hrx, herr⟩

/-! ### Time and the timers -/

theorem idleStep_carries (s : State) : s.carries (idleStep s) := by
  unfold idleStep
  refine carries_ite (fun _ => .refl s) fun _ => ?_
  split
  · exact ⟨id, fun hs => { hs with }⟩
  · exact setPending_carries s _
  · exact ⟨id, fun hs => { hs with }⟩

theorem checksDwellExpired_carries (s : State) : s.carries (checksDwellExpired s) :=
  (setChecks_carries s _).trans (setFollower_carries fun _ => Nat.zero_lt_succ _)

theorem checksBrakeSet_carries (s : State) : s.carries (checksBrakeSet s) :=
  (setChecks_carries s _).trans (setFollower_carries fun _ => Nat.zero_lt_succ _)

theorem stopDrive_carries (s : State) : s.carries (stopDrive s) :=
  carries_ite (fun _ => .refl s) fun _ => (setDrive_carries s _).trans (checksBrakeSet_carries _)

theorem dwellExpiry_carries (s : State) : s.carries (dwellExpiry s) :=
  carries_ite (fun _ => .refl s) fun _ =>
    carries_ite (fun _ => (setDrive_carries s _).trans (checksDwellExpired_carries _))
      fun _ => setDrive_carries s _

theorem settleExpiry_carries (s : State) : s.carries (settleExpiry s) :=
  carries_ite (fun _ => .refl s) fun _ =>
    carries_ite (fun _ => (setDrive_carries s _).trans (setChecks_carries _ _))
      fun _ => setDrive_carries s _

theorem demandExpiry_carries (s : State) : s.carries (demandExpiry s) :=
  carries_ite (fun _ => .refl s) fun _ =>
    (setDrive_carries s _).trans ((stopDrive_carries _).trans (report_carries _ _))

theorem blinkExpiry_carries (s : State) : s.carries (blinkExpiry s) :=
  carries_ite (fun _ => .refl s) fun _ => setPendant_carries s _

theorem closeWindow_carries (s : State) : s.carries (closeWindow s) :=
  carries_ite (fun _ => setStore_carries rfl rfl id) fun _ => .refl s

theorem windowExpiry_carries (s : State) : s.carries (windowExpiry s) :=
  carries_ite (fun _ => .refl s) fun _ =>
    (setStore_carries (x := { s.store with windowTimer := none }) rfl rfl id).trans
      (carries_ite (fun _ => .refl _) fun _ => closeWindow_carries _)

theorem completeCommit_carries (s : State) : s.carries (completeCommit s) := by
  unfold completeCommit
  split
  · exact .refl s
  · exact setStore_carries rfl rfl id

/-! ### Group commands -/

theorem dropHead_carries {s : State} {frame : RxFrame} {rest : List RxFrame}
    (h : s.line.rxQueue = frame :: rest) :
    s.carries (s.setLine { s.line with rxQueue := rest }) :=
  setLine_carries fun ⟨hq, hrx, herr⟩ =>
    ⟨hq, (Nat.le_succ _).trans (by rwa [h] at hrx), herr⟩

/-- A command handed from the receive queue carries what its taking does. -/
theorem handCommand_carries {kind : CommandKind} {take : Word → State → State}
    (h : ∀ (arg : Word) (u : State), u.carries (take arg u)) (s : State) :
    s.carries (handCommand kind take s) := by
  unfold handCommand
  split
  next hhead =>
    exact carries_ite
      (fun _ => (dropHead_carries hhead).trans (carries_ite (fun _ => h _ _) fun _ => .refl _))
      fun _ => .refl s
  next => exact .refl s

theorem closeWindowOnMotion_carries (s : State) : s.carries (closeWindowOnMotion s) :=
  carries_ite (fun _ => .refl s) fun _ => closeWindow_carries s

/-- The target taken is clamped (R69). -/
theorem takeTarget_carries (arg : Word) (s : State) : s.carries (takeTarget arg s) := by
  refine .trans ?_ (updateBlink_carries _)
  refine setPhases_carries rfl rfl rfl fun hs => ?_
  obtain ⟨-, hmark, hseated⟩ := hs.phases
  exact ⟨Nat.min_le_right _ _, hmark, hseated⟩

theorem takeTarget_phase (arg : Word) (s : State) :
    (takeTarget arg s).phases.phase = s.phases.phase := by
  simp [takeTarget]

theorem takeTarget_changePhase_carries (arg : Word) {s : State} {new : Phase}
    (hs : s.phases.phase ≠ .halted) (hnew : new ≠ .halted) :
    s.carries (changePhase new (takeTarget arg s)) :=
  (takeTarget_carries arg s).trans (changePhase_carries (by rwa [takeTarget_phase]) hnew)

theorem takeRaise_carries (arg : Word) (s : State) : s.carries (takeRaise arg s) := by
  unfold takeRaise
  refine (closeWindowOnMotion_carries s).trans ?_
  generalize closeWindowOnMotion s = u
  dsimp only
  split
  case h_5 hp =>
    exact (takeTarget_carries arg u).trans (enterSeek_carries (by simp [takeTarget_phase, hp]))
  case h_6 | h_7 => exact takeTarget_carries arg u
  case h_8 => exact (takeTarget_carries arg u).trans (evaluateSeating_carries _)
  case h_9 hp | h_10 hp | h_11 hp =>
    exact takeTarget_changePhase_carries arg (by simp [hp]) (by decide)
  all_goals exact .refl u

theorem takeLower_carries (arg : Word) (s : State) : s.carries (takeLower arg s) := by
  unfold takeLower
  refine (closeWindowOnMotion_carries s).trans ?_
  generalize closeWindowOnMotion s = u
  dsimp only
  split
  case h_5 hp | h_6 hp | h_7 hp | h_8 hp | h_9 hp =>
    exact takeTarget_changePhase_carries arg (by simp [hp]) (by decide)
  case h_10 | h_11 => exact takeTarget_carries arg u
  all_goals exact .refl u

theorem takeHold_carries (arg : Word) (s : State) : s.carries (takeHold arg s) := by
  unfold takeHold
  split
  case h_7 hp | h_8 hp | h_9 hp | h_10 hp | h_11 hp =>
    exact changePhase_carries (by simp [hp]) (by decide)
  all_goals exact .refl s

theorem takeEstop_carries (arg : Word) (s : State) : s.carries (takeEstop arg s) := by
  unfold takeEstop
  split
  case h_1 | h_2 | h_3 => exact .refl s
  all_goals exact report_carries _ s

theorem takeAck_carries (arg : Word) (s : State) : s.carries (takeAck arg s) :=
  carries_ite (fun _ => acknowledge_carries s) fun _ => .refl s

/-- The mark is own height (R74). -/
theorem takeSetMark_carries (arg : Word) (s : State) : s.carries (takeSetMark arg s) := by
  refine carries_ite (fun _ => setPhases_carries rfl rfl rfl fun hs => ?_) fun _ => .refl s
  obtain ⟨htarget, -, hseated⟩ := hs.phases
  obtain ⟨-, -, -, -, hheight, -⟩ := hs.sensors
  exact ⟨htarget, hheight, hseated⟩

theorem takeClearMark_carries (arg : Word) (s : State) : s.carries (takeClearMark arg s) := by
  refine carries_ite
    (fun _ => carries_ite (fun _ => setPhases_carries rfl rfl rfl fun hs => ?_) fun _ => .refl s)
    fun _ => .refl s
  obtain ⟨htarget, -, hseated⟩ := hs.phases
  exact ⟨htarget, Nat.zero_le _, hseated⟩

theorem handUndefined_carries (s : State) : s.carries (handUndefined s) := by
  unfold handUndefined
  split
  next hhead => exact carries_ite (fun _ => dropHead_carries hhead) fun _ => .refl s
  next => exact .refl s

/-! ### Guard lines and pendant -/

theorem activeEdge_carries (i : Fin 8) (s : State) : s.carries (activeEdge i s) := by
  unfold activeEdge
  split
  · exact .refl s
  · exact carries_ite (fun _ => .refl s) fun _ =>
      .trans (setGuards_carries s _)
        (carries_ite (fun _ => guardEdge_carries i _) fun _ => .refl _)

theorem inactiveEdge_carries (i : Fin 8) (s : State) : s.carries (inactiveEdge i s) := by
  unfold inactiveEdge
  split <;> exact setGuards_carries s _

theorem setButton_carries (button : MotionButton) (pressed : Bool) (s : State) :
    s.carries (setButton button pressed s) := by
  cases button <;> exact setPendant_carries s _

theorem actOnPress_carries (button : MotionButton) (s : State) :
    s.carries (actOnPress button s) :=
  carries_ite (fun _ => .refl s) fun _ =>
    carries_ite (fun _ => (setPendant_carries s _).trans (requestCommand_carries _ _ _))
      fun _ => (requestCommand_carries _ _ s).trans (setPendant_carries _ _)

theorem pressMotion_carries (button : MotionButton) (s : State) :
    s.carries (pressMotion button s) :=
  carries_ite (fun _ => .refl s) fun _ =>
    (setButton_carries button true s).trans
      (carries_ite (fun _ => actOnPress_carries button _) fun _ => .refl _)

theorem actOnRelease_carries (button : MotionButton) (s : State) :
    s.carries (actOnRelease button s) :=
  carries_ite (fun _ => carries_ite (fun _ => setPendant_carries s _) fun _ => .refl s)
    fun _ => carries_ite
      (fun _ => (requestCommand_carries _ _ s).trans (setPendant_carries _ _)) fun _ => .refl s

theorem releaseMotion_carries (button : MotionButton) (s : State) :
    s.carries (releaseMotion button s) :=
  carries_ite (fun _ => .refl s) fun _ =>
    (setButton_carries button false s).trans
      (carries_ite (fun _ => actOnRelease_carries button _) fun _ => .refl _)

theorem pressAck_carries (s : State) : s.carries (pressAck s) :=
  carries_ite (fun _ => .refl s) fun _ =>
    (setPendant_carries s _).trans
      (carries_ite (fun _ => requestCommand_carries _ _ _) fun _ => .refl _)

theorem pressMark_carries (s : State) : s.carries (pressMark s) :=
  carries_ite (fun _ => .refl s) fun _ =>
    (setPendant_carries s _).trans
      (carries_ite (fun _ => requestCommand_carries _ _ _) fun _ => .refl _)

theorem releaseSide_carries (button : SideButton) (s : State) :
    s.carries (releaseSide button s) := by
  cases button <;> exact setPendant_carries s _

theorem removePendant_carries (s : State) : s.carries (removePendant s) :=
  carries_ite (fun _ => .refl s) fun _ =>
    (setPendant_carries s _).trans
      (carries_ite (fun _ => requestCommand_carries _ _ _) fun _ => .refl _)

end Sys2Proof.Machine

namespace Sys2Proof.Machine

/-! ### The Line Interface's own events -/

theorem filterFrame_carries (f : LineFrame) (s : State) : s.carries (filterFrame f s) := by
  unfold filterFrame
  split
  case h_1 =>
    exact carries_ite (fun _ => .refl s) fun _ =>
      carries_ite (fun _ => report_carries _ s) fun _ => arriveFrame_carries _ s
  all_goals exact carries_ite (fun _ => arriveFrame_carries _ s) fun _ => .refl s

theorem receiveFrame_carries (bytes : List Byte) (framingError startedAtIdle : Bool) (s : State) :
    s.carries (receiveFrame bytes framingError startedAtIdle s) := by
  have hidle : s.carries (s.setLine { s.line with rxWaitsIdle := false }) := setLine_carries id
  unfold receiveFrame
  refine carries_ite (fun _ => .refl s) fun _ => carries_ite (fun _ => hidle) fun _ => ?_
  split
  · exact hidle
  · exact hidle.trans (filterFrame_carries _ _)

theorem beginAttempt_carries (s : State) : s.carries (beginAttempt s) := by
  unfold beginAttempt
  refine carries_ite (fun _ => ?_) fun _ => .refl s
  split
  next q rest hqueue =>
    exact setLine_carries fun ⟨hq, hrx, herr⟩ => ⟨by rwa [hqueue] at hq, hrx, herr⟩
  next => exact carries_ite (fun _ => setLine_carries id) fun _ => .refl s

theorem attemptSucceeds_carries (s : State) : s.carries (attemptSucceeds s) := by
  unfold attemptSucceeds
  split
  case h_1 =>
    have hsent : s.carries (s.setLine
        { s.line with
          errors := 0
          queue := s.line.queue.eraseP (fun q => q.sending)
          tx := txAfter (s.line.queue.eraseP (fun q => q.sending)) s.line.slot }) :=
      setLine_carries fun ⟨hq, hrx, _⟩ =>
        ⟨(List.length_eraseP_le ..).trans hq, hrx, Nat.zero_le _⟩
    dsimp only
    split
    · exact hsent.trans (arriveFrame_carries _ _)
    · exact hsent
  case h_2 => exact setLine_carries fun ⟨hq, hrx, _⟩ => ⟨hq, hrx, Nat.zero_le _⟩
  all_goals exact .refl s

theorem loseArbitration_carries (s : State) : s.carries (loseArbitration s) :=
  carries_ite
    (fun _ => setLine_carries fun ⟨hq, hrx, herr⟩ =>
      ⟨(unmarkSending_length _).trans_le hq, hrx, herr⟩)
    fun _ => .refl s

theorem transmitError_carries (s : State) : s.carries (transmitError s) := by
  unfold transmitError
  refine carries_ite (fun _ => carries_ite (fun _ => ?_) fun _ => ?_) fun _ => .refl s
  · refine .trans ?_ (report_carries _ _)
    exact setLine_carries fun ⟨_, hrx, _⟩ => ⟨Nat.zero_le _, hrx, Nat.min_le_right _ _⟩
  · exact setLine_carries fun ⟨hq, hrx, _⟩ =>
      ⟨(unmarkSending_length _).trans_le hq, hrx, Nat.min_le_right _ _⟩

/-! ### The sensor port -/

theorem startTransfer_carries (s : State) : s.carries (startTransfer s) :=
  carries_ite
    (fun _ => carries_ite (fun _ => setSensors_carries fun hs => hs.sensors) fun _ =>
      carries_ite (fun _ => setSensors_carries fun hs => hs.sensors) fun _ => .refl s)
    fun _ => .refl s

theorem testOverrun_carries (s : State) : s.carries (testOverrun s) := by
  have hcount : s.carries (s.setSensors
      { s.sensors with overrunCount := min (s.sensors.overrunCount + 1) badSampleLimit }) :=
    setSensors_carries fun hs => ⟨Nat.min_le_right _ _, hs.sensors.2⟩
  unfold testOverrun
  exact carries_ite
    (fun _ => carries_ite (fun _ => hcount.trans (report_carries _ _)) fun _ => hcount)
    fun _ => .refl s

theorem controlPeriod_carries (s : State) : s.carries (controlPeriod s) := by
  unfold controlPeriod
  refine .trans ?_ (startTransfer_carries _)
  refine .trans (.trans ?_ (testOverrun_carries _)) (setSensors_carries fun hs => hs.sensors)
  exact setSensors_carries fun hs => hs.sensors

/-! ### The follower's work at a sample -/

theorem spreadCheck_carries (s : State) : s.carries (spreadCheck s) := by
  unfold spreadCheck
  split
  · exact .refl s
  · exact carries_ite (fun _ => report_carries _ s) fun _ => .refl s

theorem handDemand_carries (demand : Demand) (s : State) : s.carries (handDemand demand s) := by
  refine .trans ?_ (setDrive_carries _ _)
  exact setFollower_carries id

theorem afterArrivalTest_carries (s : State) : s.carries (afterArrivalTest s) :=
  carries_ite (fun _ => arrive_carries _ s) fun _ => .refl s

theorem followSample_carries (s : State) : s.carries (followSample s) := by
  have hwork : s.carries (afterArrivalTest (spreadCheck s)) :=
    (spreadCheck_carries s).trans (afterArrivalTest_carries _)
  unfold followSample
  dsimp only
  split <;> exact hwork.trans (handDemand_carries _ _)

/-! ### The motion checks -/

/-- The stall counter rises only while the report is not due, and so stays below 150 (R134). -/
theorem stallCheck_carries (h : Nat) (s : State) : s.carries (stallCheck h s) := by
  have htaken : s.carries
      (s.setFollower { s.follower with stallRef := some h, stallCounter := 0 }) :=
    setFollower_carries fun _ => Nat.zero_lt_succ _
  unfold stallCheck
  refine carries_ite (fun _ => .refl s) fun _ =>
    carries_ite (fun _ => htaken.trans (report_carries _ _)) fun hdue =>
      carries_ite (fun hcounts => setFollower_carries fun _ => ?_) fun _ => htaken
  simpa [stallDue, hcounts] using hdue

theorem wrongDirectionCheck_carries (h : Nat) (s : State) :
    s.carries (wrongDirectionCheck h s) :=
  carries_ite (fun _ => report_carries _ s) fun _ => setChecks_carries s _

theorem takeCheck_carries {brake : BrakeOrder} {start : State} {due : State → Bool} {cause : Cause}
    {check : State → State} (h : ∀ u : State, u.carries (check u)) (s : State) :
    s.carries (takeCheck brake start due cause check s) :=
  carries_ite (fun _ => carries_ite (fun _ => report_carries _ s) fun _ => .refl s) fun _ => h s

theorem takeStall_carries (brake : BrakeOrder) (start : State) (h : Nat) (s : State) :
    s.carries (takeStall brake start h s) := takeCheck_carries (stallCheck_carries h) s

theorem takeWrongDirection_carries (brake : BrakeOrder) (start : State) (h : Nat) (s : State) :
    s.carries (takeWrongDirection brake start h s) :=
  takeCheck_carries (wrongDirectionCheck_carries h) s

theorem driftCheck_carries (h : Nat) (s : State) : s.carries (driftCheck h s) := by
  unfold driftCheck
  split
  · exact .refl s
  · exact carries_ite (fun _ => report_carries _ s) fun _ => .refl s

theorem checkMotion_carries (valid : Bool) (order : SampleOrder) (start s : State) :
    s.carries (checkMotion valid order start s) := by
  unfold checkMotion
  split
  · refine .trans (carries_ite (fun _ => ?_) fun _ => ?_) (driftCheck_carries _ _)
    · exact (takeStall_carries _ start _ s).trans (takeWrongDirection_carries _ start _ _)
    · exact (takeWrongDirection_carries _ start _ s).trans (takeStall_carries _ start _ _)
  · exact .refl s

/-! ### The phase rules at a sample -/

theorem exitInit_carries {s : State} (h : s.phases.phase ≠ .halted) (atPosition : Bool) :
    s.carries (exitInit atPosition s) :=
  carries_ite
    (fun _ => carries_ite (fun _ => changePhase_carries h (by decide)) fun _ => .refl s)
    fun _ => carries_ite (fun _ => enterListenFromInit_carries h) fun _ => .refl s

/-- A progress item set leaves everything the invariants speak of (R46). -/
theorem setProgress_carries (s : State) (positionSeen loadSeen : Bool) :
    s.carries
      (s.setPhases { s.phases with positionSeen := positionSeen, loadSeen := loadSeen }) :=
  setPhases_carries rfl rfl rfl fun hs => hs.phases

theorem positionRules_carries (valid : Bool) (s : State) : s.carries (positionRules valid s) := by
  by_cases hi : s.phases.phase = .init
  · rw [positionRules_of_init hi]
    exact (setProgress_carries s _ _).trans (exitInit_carries (by simp [hi]) true)
  by_cases hk : s.phases.phase = .seek
  · rw [positionRules_of_seek hk]
    exact carries_ite (fun _ => enterSeated_carries (by simp [hk])) fun _ =>
      carries_ite (fun _ => report_carries _ s) fun _ => .refl s
  · rw [positionRules_of_other hi hk]
    exact .refl s

theorem loadRules_carries (s : State) : s.carries (loadRules s) := by
  by_cases hi : s.phases.phase = .init
  · rw [loadRules_of_init hi]
    exact (setProgress_carries s _ _).trans (exitInit_carries (by simp [hi]) false)
  · rw [loadRules_of_other hi]
    exact .refl s

/-! ### A position sample -/

theorem clampTo_le (hi : Nat) (x : Int) : clampTo hi x ≤ hi := Nat.min_le_right _ _

theorem storePosition_carries (word : BitVec 18) (s : State) :
    s.carries (storePosition word s) := by
  refine carries_ite (fun _ => setSensors_carries fun hs => ?_) fun _ =>
    setSensors_carries fun hs => ?_
  · obtain ⟨hover, -, hcontact, hload, hheight, hld⟩ := hs.sensors
    refine ⟨hover, Nat.zero_le _, hcontact, hload, ?_, hld⟩
    dsimp only
    split
    · exact hheight
    · exact clampTo_le _ _
  · obtain ⟨hover, -, hrest⟩ := hs.sensors
    exact ⟨hover, Nat.min_le_right _ _, hrest⟩

theorem takeSample_carries (valid : Bool) (order : SampleOrder) (start s : State)
    (taker : SampleTaker) : s.carries (takeSample valid order start s taker) := by
  cases taker with
  | follower => exact followSample_carries s
  | motionChecks => exact checkMotion_carries valid order start s
  | phaseRules => exact positionRules_carries valid s

theorem handSample_carries (valid : Bool) (order : SampleOrder) (s : State) :
    s.carries (handSample valid order s) := by
  have htake (takers : List SampleTaker) (u : State) :
      u.carries (takers.foldl (takeSample valid order s) u) :=
    foldl_carries (takeSample_carries valid order s) takers u
  have hinvalid (u : State) : u.carries (reportInvalid valid u) :=
    carries_ite (fun _ => report_carries _ u) fun _ => .refl u
  exact (htake _ s).trans ((hinvalid _).trans (htake _ _))

theorem completePosition_carries (word : BitVec 18) (order : SampleOrder) (s : State) :
    s.carries (completePosition word order s) := by
  refine carries_ite (fun _ => ?_) fun _ => .refl s
  refine .trans ?_ ((storePosition_carries word _).trans
    ((handSample_carries _ order _).trans (startTransfer_carries _)))
  exact setSensors_carries fun hs => ⟨Nat.zero_le _, hs.sensors.2⟩

/-! ### A load sample -/

theorem contactSet_carries (s : State) : s.carries (contactSet s) := by
  unfold contactSet
  split
  case h_1 hp => exact enterSeated_carries (by simp [hp])
  all_goals exact .refl s

theorem contactCleared_carries (s : State) : s.carries (contactCleared s) := by
  unfold contactCleared
  split
  case h_1 | h_2 | h_3 => exact report_carries _ s
  case h_4 hp => exact changePhase_carries (by simp [hp]) (by decide)
  all_goals exact .refl s

/-- A contact run that is kept below 4 (R101). -/
theorem setContactRun_carries (s : State) (contact : Bool) {run : Nat} (h : run < contactSamples) :
    s.carries (s.setSensors { s.sensors with contact := contact, contactRun := run }) :=
  setSensors_carries fun hs =>
    have ⟨hover, hinv, _, hrest⟩ := hs.sensors
    ⟨hover, hinv, h, hrest⟩

theorem qualifyContact_carries (c : ConfigValues) (first : Bool) (s : State) :
    s.carries (qualifyContact c first s) := by
  have hzero : 0 < contactSamples := by decide
  unfold qualifyContact
  refine carries_ite (fun _ => setSensors_carries fun hs => hs.sensors) fun _ =>
    carries_ite (fun _ => carries_ite (fun _ => ?_) fun _ => setContactRun_carries s _ hzero)
      fun _ => carries_ite (fun _ => ?_) fun _ => setContactRun_carries s _ hzero
  · exact carries_ite
      (fun _ => (setContactRun_carries s false hzero).trans (contactCleared_carries _))
      fun hrun => setContactRun_carries s _ (Nat.not_le.1 hrun)
  · exact carries_ite
      (fun _ => (setContactRun_carries s true hzero).trans (contactSet_carries _))
      fun hrun => setContactRun_carries s _ (Nat.not_le.1 hrun)

theorem overloadQ_le (c : ConfigValues) : c.overloadQ ≤ 24 := by
  unfold ConfigValues.overloadQ
  split <;> decide

theorem setOverloadRun_carries (s : State) {run : Nat} (h : run ≤ 24) :
    s.carries (s.setSensors { s.sensors with overloadRun := run }) :=
  setSensors_carries fun hs =>
    have ⟨hover, hinv, hcontact, _, hrest⟩ := hs.sensors
    ⟨hover, hinv, hcontact, h, hrest⟩

theorem qualifyOverload_carries (c : ConfigValues) (s : State) :
    s.carries (qualifyOverload c s) := by
  have hrun := setOverloadRun_carries s
    ((Nat.min_le_right (s.sensors.overloadRun + 1) c.overloadQ).trans (overloadQ_le c))
  unfold qualifyOverload
  exact carries_ite
    (fun _ => carries_ite (fun _ => hrun.trans (report_carries _ _)) fun _ => hrun)
    fun _ => setOverloadRun_carries s (Nat.zero_le _)

theorem takeLoad_carries (c : ConfigValues) (first : Bool) (order : LoadOrder) (s : State) :
    s.carries (takeLoad c first order s) := by
  cases order with
  | contactOverloadStart =>
    exact (qualifyContact_carries c first s).trans
      ((qualifyOverload_carries c _).trans (loadRules_carries _))
  | overloadContactStart =>
    exact (qualifyOverload_carries c s).trans
      ((qualifyContact_carries c first _).trans (loadRules_carries _))
  | contactStartOverload =>
    exact (qualifyContact_carries c first s).trans
      ((loadRules_carries _).trans (qualifyOverload_carries c _))

theorem inRanges_wCapacity {c : ConfigValues} (h : c.inRanges = true) :
    c.tol.wCapacity.toNat ≤ maxLoad := by
  simp only [ConfigValues.inRanges, Tolerances.toList, toleranceRanges, List.zip_cons_cons,
    List.all_cons, Bool.and_eq_true, inRange, decide_eq_true_eq] at h
  simp only [h]

/-- The load stored is clamped, and W_CAPACITY, which a saturated sample may store, lies in its
range (R98). -/
theorem storedLoad_le {c : ConfigValues} (h : c.inRanges = true) (word : BitVec 12) :
    storedLoad c word ≤ maxLoad := by
  unfold storedLoad
  split
  · exact Nat.max_le.2 ⟨clampTo_le _ _, inRanges_wCapacity h⟩
  · exact clampTo_le _ _

theorem storeLoad_carries {s : State} {c : ConfigValues} (hc : s.store.active = some c)
    (word : BitVec 12) : s.carries (storeLoad c word s) := by
  refine setSensors_carries fun hs => ?_
  obtain ⟨-, hconfig⟩ := hs.sound
  rw [State.configSound, hc] at hconfig
  obtain ⟨hranges, -⟩ := hconfig
  obtain ⟨hover, hinv, hcontact, hload, hheight, -⟩ := hs.sensors
  exact ⟨hover, hinv, hcontact, hload, hheight, storedLoad_le hranges word⟩

theorem completeLoad_carries (word : BitVec 12) (order : LoadOrder) (s : State) :
    s.carries (completeLoad word order s) := by
  have hidle : s.carries (s.setSensors { s.sensors with port := .idle }) :=
    setSensors_carries fun hs => hs.sensors
  refine carries_ite (fun _ => hidle.trans (.trans ?_ (startTransfer_carries _))) fun _ => .refl s
  split
  · exact loadRules_carries _
  next c hc => exact (storeLoad_carries hc word).trans (takeLoad_carries c _ order _)

/-! ### Service frames -/

theorem setResult_carries (result : ConfigResult) (s : State) : s.carries (setResult result s) :=
  setStore_carries rfl rfl id

/-- A service frame carries what its acceptance does. -/
theorem takeService_carries {accept : State → State} (h : ∀ u : State, u.carries (accept u))
    (s : State) : s.carries (takeService accept s) := by
  unfold takeService
  split
  · exact setResult_carries _ s
  · exact h s

theorem writeField_carries (id : Nat) (value : Word) (s : State) :
    s.carries (writeField id value s) := by
  unfold writeField
  split
  · exact setResult_carries _ s
  · exact carries_ite (fun _ => setStore_carries rfl rfl fun h => h) fun _ => setResult_carries _ s

theorem handConfigWrite_carries (s : State) : s.carries (handConfigWrite s) := by
  unfold handConfigWrite
  split
  next hhead =>
    exact carries_ite (fun _ => .refl s) fun _ =>
      (dropHead_carries hhead).trans (takeService_carries (writeField_carries _ _) _)
  next => exact .refl s

theorem handTolRewind_carries (s : State) : s.carries (handTolRewind s) := by
  have hrewind (u : State) : u.carries (rewind u) :=
    setStore_carries rfl rfl fun _ => Nat.zero_le _
  unfold handTolRewind
  split
  next hhead =>
    exact carries_ite
      (fun _ => (dropHead_carries hhead).trans (takeService_carries hrewind _)) fun _ => .refl s
  next => exact .refl s

/-- There is a slot for every pointer up to 5 alone (R170). -/
theorem toleranceRange_lt {slot : Nat} {range : Nat × Nat} (h : toleranceRange slot = some range) :
    slot < 6 := (List.getElem?_eq_some_iff.1 h).1

theorem writeTolerance_carries (value : Word) (s : State) :
    s.carries (writeTolerance value s) := by
  unfold writeTolerance
  split
  · exact setResult_carries _ s
  next range hrange =>
    refine carries_ite (fun _ => setStore_carries rfl rfl fun _ => ?_)
      fun _ => setResult_carries _ s
    have hlt := toleranceRange_lt hrange
    dsimp only
    split <;> omega

theorem handTolWrite_carries (s : State) : s.carries (handTolWrite s) := by
  unfold handTolWrite
  split
  next hhead =>
    exact (dropHead_carries hhead).trans (takeService_carries (writeTolerance_carries _) _)
  next => exact .refl s

theorem startCommit_carries (s : State) : s.carries (startCommit s) := by
  unfold startCommit
  split
  · exact setResult_carries _ s
  · exact setStore_carries rfl rfl fun _ => Nat.zero_le _

theorem handCommit_carries (s : State) : s.carries (handCommit s) := by
  unfold handCommit
  split
  next hhead => exact (dropHead_carries hhead).trans (takeService_carries startCommit_carries _)
  next => exact .refl s

theorem handRestart_carries (inputs : SampledInputs) (s : State) :
    s.carries (handRestart inputs s) := by
  unfold handRestart
  split
  next hhead =>
    exact (dropHead_carries hhead).trans
      (takeService_carries (resetPart_carries .service inputs) _)
  next => exact .refl s

theorem handCloseSetup_carries (s : State) : s.carries (handCloseSetup s) := by
  unfold handCloseSetup
  split
  next hhead => exact (dropHead_carries hhead).trans (closeWindow_carries _)
  next => exact .refl s

end Sys2Proof.Machine

namespace Sys2Proof.Machine

/-! ### The Peer Table's notices -/

theorem lostNotice_carries (s : State) (station : Nat) : s.carries (lostNotice s station) := by
  unfold lostNotice
  split
  case h_1 hp => exact changePhase_carries (by simp [hp]) (by decide)
  case h_9 | h_10 | h_11 => exact .refl s
  all_goals exact report_carries _ s

theorem scanned_carries (s : State) : s.carries s.scanned := by
  refine (setScanTimer_carries s 20).trans (setPeers_carries fun h => ?_)
  exact tableAndConfigSound_of_table (silenceScan_table s).symm (silenceScan_sound h)

theorem silenceScan_carries (s : State) : s.carries (silenceScan s) := by
  rw [silenceScan_eq]
  refine .trans ?_ (foldl_carries lostNotice_carries _ _)
  exact carries_ite (fun _ => scanned_carries s) fun _ =>
    (scanned_carries s).trans (updateBlink_carries _)

theorem epochItem_carries (epoch : BitVec 4) (s : State) : s.carries (epochItem epoch s) :=
  carries_ite (fun _ => setPhases_carries rfl rfl rfl fun hs => hs.phases) fun _ =>
    carries_ite (fun _ => acknowledge_carries s) fun _ => .refl s

theorem restartedNotice_carries (s : State) : s.carries (restartedNotice s) :=
  carries_ite (fun _ => report_carries _ s) fun _ => .refl s

theorem mismatchNotice_carries (s : State) : s.carries (mismatchNotice s) :=
  carries_ite (fun _ => report_carries _ s) fun _ => .refl s

theorem haltItem_carries (station : Nat) (epoch : BitVec 4) (halt : HaltReport) (s : State) :
    s.carries (haltItem station epoch halt s) := by
  unfold haltItem
  split
  · exact carries_ite (fun _ => latchPeerHalt_carries station s) fun _ => .refl s
  all_goals exact .refl s

theorem completionNotice_carries (s : State) : s.carries (completionNotice s) :=
  carries_ite (fun h => leaveListen_carries h) fun _ => .refl s

theorem afterItems_carries (e : PeerEntry) (restarted : Bool) (s : State) :
    s.carries (s.afterItems e restarted) := by
  have htold : s.carries
      (if restarted then restartedNotice (epochItem e.epoch s) else epochItem e.epoch s) :=
    carries_ite (fun _ => (epochItem_carries _ s).trans (restartedNotice_carries _))
      fun _ => epochItem_carries _ s
  exact .trans
    (carries_ite (fun _ => htold) fun _ => htold.trans (mismatchNotice_carries _))
    (haltItem_carries _ _ _ _)

theorem statusNotice_carries (e : PeerEntry) (restarted wasComplete : Bool) (s : State) :
    s.carries (statusNotice e restarted wasComplete s) := by
  rw [statusNotice_eq]
  refine .trans ?_ (evaluateSeating_carries _)
  exact carries_ite
    (fun _ => (afterItems_carries e restarted s).trans (completionNotice_carries _))
    fun _ => afterItems_carries e restarted s

/-- The storing keeps the table sound, as `takeStatus_sound` says of the whole. -/
theorem takeStatus_carries (station : BitVec 6) (f : StatusFields) (s : State) :
    s.carries (takeStatus station f s) := by
  have hsound := takeStatus_sound station f (s := s)
  generalize htaken : takeStatus station f s = t at hsound ⊢
  unfold takeStatus at htaken
  split at htaken
  · exact htaken ▸ .refl s
  next c hc =>
  split at htaken
  · exact htaken ▸ .refl s
  split at htaken
  · exact htaken ▸ .refl s
  next r hr =>
  split at htaken
  · exact htaken ▸ report_carries _ s
  · subst htaken
    have hstored := storeReport_table c station.toNat r s
    refine .trans ?_ ((updateBlink_carries _).trans (statusNotice_carries _ _ _ _))
    exact setPeers_carries fun h => tableAndConfigSound_of_table hstored.symm (hsound h)

theorem handStatus_carries (s : State) : s.carries (handStatus s) := by
  unfold handStatus
  split
  next hhead => exact (dropHead_carries hhead).trans (takeStatus_carries _ _ _)
  next => exact .refl s

/-! ### Every step -/

theorem running_carries {effect : State → State} {s t : State} (ht : running s effect = .next t)
    (h : s.carries (effect s)) : s.carries t := by
  obtain rfl := Host.Outcome.next.inj ht
  exact carries_ite (fun _ => .refl s) fun _ => h

theorem exec_carries (i : Instr) {s t : State} (ht : exec i s = .next t) : s.carries t := by
  cases i with
  | reset kind inputs =>
    obtain rfl := Host.Outcome.next.inj ht
    exact release_carries kind inputs s
  | resetApplied =>
    obtain rfl := Host.Outcome.next.inj ht
    exact applyReset_carries s
  | silenceScanExpiry => exact running_carries ht (silenceScan_carries s)
  | controlPeriodExpiry => exact running_carries ht (controlPeriod_carries s)
  | positionCompletion word order =>
    exact running_carries ht (completePosition_carries word order s)
  | loadCompletion word order => exact running_carries ht (completeLoad_carries word order s)
  | statusTimerExpiry => exact running_carries ht (fillSlot_carries s)
  | dwellExpiry => exact running_carries ht (dwellExpiry_carries s)
  | settleExpiry => exact running_carries ht (settleExpiry_carries s)
  | demandTimerExpiry => exact running_carries ht (demandExpiry_carries s)
  | blinkTimerExpiry => exact running_carries ht (blinkExpiry_carries s)
  | windowTimerExpiry => exact running_carries ht (windowExpiry_carries s)
  | commitCompletion => exact running_carries ht (completeCommit_carries s)
  | guardActiveEdge line => exact running_carries ht (activeEdge_carries line s)
  | guardInactiveEdge line => exact running_carries ht (inactiveEdge_carries line s)
  | motionButtonPress button => exact running_carries ht (pressMotion_carries button s)
  | deadManRelease button => exact running_carries ht (releaseMotion_carries button s)
  | ackButtonPress => exact running_carries ht (pressAck_carries s)
  | markButtonPress => exact running_carries ht (pressMark_carries s)
  | ackOrMarkRelease button => exact running_carries ht (releaseSide_carries button s)
  | pendantRemoved => exact running_carries ht (removePendant_carries s)
  | pendantPlugged => exact running_carries ht (setPendant_carries s _)
  | frameReceived bytes framingError startedAtIdle =>
    exact running_carries ht (receiveFrame_carries bytes framingError startedAtIdle s)
  | status => exact running_carries ht (handStatus_carries s)
  | raise => exact running_carries ht (handCommand_carries takeRaise_carries s)
  | lower => exact running_carries ht (handCommand_carries takeLower_carries s)
  | hold => exact running_carries ht (handCommand_carries takeHold_carries s)
  | estop => exact running_carries ht (handCommand_carries takeEstop_carries s)
  | ack => exact running_carries ht (handCommand_carries takeAck_carries s)
  | setMark => exact running_carries ht (handCommand_carries takeSetMark_carries s)
  | clearMark => exact running_carries ht (handCommand_carries takeClearMark_carries s)
  | configWrite => exact running_carries ht (handConfigWrite_carries s)
  | tolRewind => exact running_carries ht (handTolRewind_carries s)
  | tolWrite => exact running_carries ht (handTolWrite_carries s)
  | commit => exact running_carries ht (handCommit_carries s)
  | restart inputs => exact running_carries ht (handRestart_carries inputs s)
  | closeSetup => exact running_carries ht (handCloseSetup_carries s)
  | attempt => exact running_carries ht (beginAttempt_carries s)
  | attemptSucceeds => exact running_carries ht (attemptSucceeds_carries s)
  | transmitError => exact running_carries ht (transmitError_carries s)
  | lostArbitration => exact running_carries ht (loseArbitration_carries s)
  | commandKindUndefined => exact running_carries ht (handUndefined_carries s)

theorem step_carries {s t : State} (ht : step s = .next t) : s.carries t := by
  rw [step] at ht
  split at ht
  · obtain rfl := Host.Outcome.next.inj ht
    exact idleStep_carries s
  next c rest _ => exact (setPending_carries s rest).trans (exec_carries c ht)

/-- Settles O55: every step carries the invariant. -/
theorem stepKeepsHaltExact : Obligations.StepKeepsHaltExact := by
  unfold Obligations.StepKeepsHaltExact
  intro s t hx ht
  exact (step_carries ht).halt hx

/-- Settles O57: every step carries the bounds, together with the table invariants. -/
theorem stepKeepsBounds : Obligations.StepKeepsBounds := by
  unfold Obligations.StepKeepsBounds
  intro s t hbounded hconfig htable ht
  exact bounded_of_confined
    ((step_carries ht).bounds (confined_of_bounded hbounded ⟨htable, hconfig⟩))

end Sys2Proof.Machine

/-! ## Group commands and the pendant: proofs of the family's statements -/

namespace Sys2Proof.Machine

/-! ### What the lamps show (R43, R86, R87)

The two invariants of the lamps are carried together. An operation that writes none of the items
they read keeps them by unfolding alone; what remains is the change of phase, the re-evaluation of
the blinking, and the storing of the flags and of the table. -/

/-- The lamps and the flags are sound but for the blinking, which waits to be re-evaluated. -/
def State.litBeforeBlink (s : State) : Prop :=
  s.pendant.lampReady = (lampsOf s.phases.phase).1 ∧
    s.pendant.lampFault = (lampsOf s.phases.phase).2.2 ∧
    (s.pendant.blinkTimer.isSome = false → s.pendant.lampMoving = (lampsOf s.phases.phase).2.1) ∧
    s.arrivalFlagsSound

/-- Lamps and arrival flags are sound. -/
def State.lit (s : State) : Prop :=
  s.litBeforeBlink ∧ s.pendant.blinkTimer.isSome = setAtTarget s

theorem lit_iff (s : State) : s.lit ↔ s.lampsSound ∧ s.arrivalFlagsSound :=
  ⟨fun ⟨⟨hready, hfault, hstill, hflags⟩, hblink⟩ => ⟨⟨hready, hfault, hblink, hstill⟩, hflags⟩,
    fun ⟨⟨hready, hfault, hblink, hstill⟩, hflags⟩ => ⟨⟨hready, hfault, hstill, hflags⟩, hblink⟩⟩

theorem lit_ite {p : Prop} [Decidable p] {a b : State} (ha : a.lit) (hb : b.lit) :
    (if p then a else b).lit := by
  split <;> assumption

theorem lit_foldl {α : Type} {f : State → α → State}
    (hf : ∀ (s : State) (a : α), s.lit → (f s a).lit) (l : List α) {s : State} (h : s.lit) :
    (l.foldl f s).lit := by
  induction l generalizing s with
  | nil => exact h
  | cons a rest ih => exact ih (hf s a h)

/-! ### Blinking and the change of phase -/

/-- The re-evaluation makes the blinking sound (R87). -/
theorem updateBlink_lit {s : State} (h : s.litBeforeBlink) : (updateBlink s).lit := by
  obtain ⟨hready, hfault, hstill, hflags⟩ := h
  unfold updateBlink
  split
  next hset =>
    split
    next => exact ⟨⟨hready, hfault, fun hnone => absurd hnone (by simp), hflags⟩, hset.symm⟩
    next hrun => exact ⟨⟨hready, hfault, hstill, hflags⟩, by
      simpa [hset, Option.isSome_iff_ne_none] using hrun⟩
  next hset =>
    rw [Bool.not_eq_true] at hset
    split
    next => exact ⟨⟨hready, hfault, fun _ => rfl, hflags⟩, hset.symm⟩
    next hidle => exact ⟨⟨hready, hfault, hstill, hflags⟩, by simpa [hset] using hidle⟩

/-- A phase entered shows its lamps, with the flags clear and nothing blinking (R43, R86). -/
theorem changePhase_lit (new : Phase) {s : State} (h : s.lit) : (changePhase new s).lit := by
  by_cases hp : s.phases.phase = new
  · rwa [← hp, changePhase_same]
  · have hlamps : lampsOf new =
        (decide (new = .ready ∨ new = .hold), new.isMotion, decide (new = .halted)) := by
      cases new <;> rfl
    simp [State.lit, State.litBeforeBlink, State.arrivalFlagsSound, setAtTarget,
      changePhase_pendant hp, changePhase_phases hp, hlamps]

theorem report_lit (cause : Cause) {s : State} (h : s.lit) : (report cause s).lit := by
  have hlatched : (s.setPhases { s.phases with causes := s.phases.causes ++ [cause] }).lit := h
  exact lit_ite h (changePhase_lit .halted hlatched)

theorem latchPeerHalt_lit (station : Nat) {s : State} (h : s.lit) :
    (latchPeerHalt station s).lit := by
  have hlatched : (s.setPhases { s.phases with origin := some station }).lit := h
  unfold latchPeerHalt
  split
  · exact h
  · exact changePhase_lit .halted hlatched

/-! ### The Line Interface's queues -/

theorem requestCommand_lit (kind : CommandKind) (arg : Word) {s : State} (h : s.lit) :
    (requestCommand kind arg s).lit := by
  unfold requestCommand
  refine lit_ite h ?_
  split <;> exact h

theorem arriveFrame_lit (frame : RxFrame) {s : State} (h : s.lit) : (arriveFrame frame s).lit := by
  unfold arriveFrame
  refine lit_ite h ?_
  split
  case h_1 => exact lit_ite h (report_lit _ h)
  all_goals exact h

/-! ### Entries into phases -/

theorem enterSeek_lit {s : State} (h : s.lit) : (enterSeek s).lit := changePhase_lit .seek h

theorem evaluateSeating_lit {s : State} (h : s.lit) : (evaluateSeating s).lit := by
  have hcount : (s.setPhases { s.phases with seatedCount := countSeated s.peers }).lit := h
  exact lit_ite (lit_ite (changePhase_lit .lift hcount) hcount) h

theorem enterSeated_lit {s : State} (h : s.lit) : (enterSeated s).lit :=
  evaluateSeating_lit (changePhase_lit .seated h)

/-- A flag of arrival is set in HOLD, which has just been entered (R57, R59). -/
theorem arrive_lit (atMark : Bool) {s : State} (h : s.lit) : (arrive atMark s).lit := by
  obtain ⟨⟨hready, hfault, hstill, hflags⟩, -⟩ := changePhase_lit .hold h
  unfold arrive
  split
  case h_1 | h_2 =>
    refine updateBlink_lit ?_
    cases atMark <;> exact ⟨hready, hfault, hstill, by simp [State.arrivalFlagsSound]⟩
  case h_3 => exact changePhase_lit .ready h
  all_goals exact h

/-! ### Guard edges -/

theorem reportGuard_lit (i : Fin 8) {s : State} (h : s.lit) : (reportGuard i s).lit :=
  report_lit _ (lit_ite (requestCommand_lit _ _ h) h)

theorem setPending_lit (i : Fin 8) {s : State} (h : s.lit) : (setPending i s).lit := h

theorem bottomEdge_lit {s : State} (h : s.lit) : (bottomEdge s).lit := by
  unfold bottomEdge
  split
  case h_1 => exact changePhase_lit .ready h
  case h_2 => exact lit_ite (report_lit _ (setPending_lit 2 h)) h
  all_goals exact h

theorem guardEdge_lit (i : Fin 8) {s : State} (h : s.lit) : (guardEdge i s).lit := by
  unfold guardEdge
  refine lit_ite (bottomEdge_lit h) ?_
  split
  case h_1 | h_2 => exact h
  all_goals exact reportGuard_lit i (setPending_lit i h)

theorem pseudoEdge_lit (s : State) (i : Fin 8) (h : s.lit) : (pseudoEdge s i).lit := by
  unfold pseudoEdge
  split
  · exact h
  · exact lit_ite h (lit_ite (reportGuard_lit i h) (lit_ite (guardEdge_lit i h) h))

theorem enterListenFromInit_lit {s : State} (h : s.lit) : (enterListenFromInit s).lit := by
  have hedges := lit_foldl pseudoEdge_lit guardLines (changePhase_lit .listen h)
  exact lit_ite (changePhase_lit _ hedges) hedges

/-! ### Acknowledgement and resets -/

theorem afterRemoval_lit (s : State) (cause : Cause) (h : s.lit) : (afterRemoval s cause).lit := by
  unfold afterRemoval
  split
  · exact h
  · split <;> exact h

theorem acknowledge_lit {s : State} (h : s.lit) : (acknowledge s).lit := by
  have hrelieved : s.relieved.lit :=
    lit_foldl afterRemoval_lit _
      (s := s.setPhases { s.phases with epoch := s.phases.epoch + 1#4 }) h
  exact lit_ite (changePhase_lit _ hrelieved) hrelieved

theorem resetPart_lit (kind : ResetKind) (inputs : SampledInputs) (s : State) :
    (resetPart kind inputs s).lit := by
  simp [State.lit, State.litBeforeBlink, State.arrivalFlagsSound, setAtTarget, resetPart, lampsOf]

theorem release_lit (kind : ResetKind) (inputs : SampledInputs) {s : State} (h : s.lit) :
    (release kind inputs s).lit := lit_ite h (resetPart_lit kind inputs s)

theorem applyReset_lit {s : State} (h : s.lit) : (applyReset s).lit := h

end Sys2Proof.Machine

namespace Sys2Proof.Machine

/-! ### Time and the timers -/

/-- A running blink timer keeps running while time passes. -/
theorem passMillisecond_lit {s : State} (h : s.lit) : (passMillisecond s).lit := by
  obtain ⟨⟨hready, hfault, hstill, hflags⟩, hblink⟩ := h
  have hrun : (countDown s.pendant.blinkTimer).isSome = s.pendant.blinkTimer.isSome :=
    Option.isSome_map
  exact ⟨⟨hready, hfault, fun hnone => hstill (hrun.symm.trans hnone), hflags⟩, hrun.trans hblink⟩

theorem idleStep_lit {s : State} (h : s.lit) : (idleStep s).lit := by
  unfold idleStep
  refine lit_ite h ?_
  split
  · exact passMillisecond_lit h
  all_goals exact h

theorem stopDrive_lit {s : State} (h : s.lit) : (stopDrive s).lit := lit_ite h h

theorem dwellExpiry_lit {s : State} (h : s.lit) : (dwellExpiry s).lit := lit_ite h (lit_ite h h)

theorem settleExpiry_lit {s : State} (h : s.lit) : (settleExpiry s).lit := lit_ite h (lit_ite h h)

theorem demandExpiry_lit {s : State} (h : s.lit) : (demandExpiry s).lit := by
  have hidle : (s.setDrive { s.drive with demandTimer := none }).lit := h
  exact lit_ite h (report_lit _ (stopDrive_lit hidle))

/-- The MOVING lamp is free while it blinks. -/
theorem blinkExpiry_lit {s : State} (h : s.lit) : (blinkExpiry s).lit := by
  unfold blinkExpiry
  split
  next => exact h
  next hrun =>
    obtain ⟨⟨hready, hfault, -, hflags⟩, hblink⟩ := h
    have hsome : s.pendant.blinkTimer.isSome = true := by
      simpa [Option.isSome_iff_ne_none] using hrun
    exact ⟨⟨hready, hfault, fun hnone => absurd hnone (by simp), hflags⟩, hsome.symm.trans hblink⟩

theorem closeWindow_lit {s : State} (h : s.lit) : (closeWindow s).lit := lit_ite h h

theorem windowExpiry_lit {s : State} (h : s.lit) : (windowExpiry s).lit := by
  have hidle : (s.setStore { s.store with windowTimer := none }).lit := h
  exact lit_ite h (lit_ite hidle (closeWindow_lit hidle))

theorem completeCommit_lit {s : State} (h : s.lit) : (completeCommit s).lit := by
  unfold completeCommit
  split <;> exact h

/-! ### Group commands -/

theorem dropHead_lit (rest : List RxFrame) {s : State} (h : s.lit) :
    (s.setLine { s.line with rxQueue := rest }).lit := h

theorem handCommand_lit {kind : CommandKind} {take : Word → State → State}
    (htake : ∀ (arg : Word) {u : State}, u.lit → (take arg u).lit) {s : State} (h : s.lit) :
    (handCommand kind take s).lit := by
  unfold handCommand
  split
  next _ _ arg rest _ =>
    have hdropped := dropHead_lit rest h
    exact lit_ite (lit_ite (htake arg hdropped) hdropped) h
  next => exact h

theorem closeWindowOnMotion_lit {s : State} (h : s.lit) : (closeWindowOnMotion s).lit :=
  lit_ite h (closeWindow_lit h)

/-- A motion command clears both flags, and the blinking is re-evaluated (R69, R87). -/
theorem takeTarget_lit (arg : Word) {s : State} (h : s.lit) : (takeTarget arg s).lit := by
  obtain ⟨⟨hready, hfault, hstill, -⟩, -⟩ := h
  exact updateBlink_lit ⟨hready, hfault, hstill, by simp [State.arrivalFlagsSound]⟩

theorem takeRaise_lit (arg : Word) {s : State} (h : s.lit) : (takeRaise arg s).lit := by
  have hclosed := closeWindowOnMotion_lit h
  have htaken := takeTarget_lit arg hclosed
  unfold takeRaise
  dsimp only
  split
  case h_1 | h_2 | h_3 | h_4 => exact hclosed
  case h_5 => exact enterSeek_lit htaken
  case h_6 | h_7 => exact htaken
  case h_8 => exact evaluateSeating_lit htaken
  all_goals exact changePhase_lit _ htaken

theorem takeLower_lit (arg : Word) {s : State} (h : s.lit) : (takeLower arg s).lit := by
  have hclosed := closeWindowOnMotion_lit h
  have htaken := takeTarget_lit arg hclosed
  unfold takeLower
  dsimp only
  split
  case h_1 | h_2 | h_3 | h_4 => exact hclosed
  case h_10 | h_11 => exact htaken
  all_goals exact changePhase_lit _ htaken

theorem takeHold_lit (arg : Word) {s : State} (h : s.lit) : (takeHold arg s).lit := by
  unfold takeHold
  split
  case h_7 | h_8 | h_9 | h_10 | h_11 => exact changePhase_lit _ h
  all_goals exact h

theorem takeEstop_lit (arg : Word) {s : State} (h : s.lit) : (takeEstop arg s).lit := by
  unfold takeEstop
  split
  case h_1 | h_2 | h_3 => exact h
  all_goals exact report_lit _ h

theorem takeAck_lit (arg : Word) {s : State} (h : s.lit) : (takeAck arg s).lit :=
  lit_ite (acknowledge_lit h) h

theorem takeSetMark_lit (arg : Word) {s : State} (h : s.lit) : (takeSetMark arg s).lit :=
  lit_ite h h

/-- The blinking does not read AT_MARK, which is cleared (R75). -/
theorem takeClearMark_lit (arg : Word) {s : State} (h : s.lit) : (takeClearMark arg s).lit := by
  have hcleared : (s.setPhases { s.phases with mark := none, atMark := false }).lit := by
    obtain ⟨⟨hready, hfault, hstill, hatTarget, -⟩, hblink⟩ := h
    exact ⟨⟨hready, hfault, hstill, hatTarget, Bool.noConfusion⟩, hblink⟩
  exact lit_ite (lit_ite hcleared h) h

theorem handUndefined_lit {s : State} (h : s.lit) : (handUndefined s).lit := by
  unfold handUndefined
  split
  · exact lit_ite h h
  · exact h

/-! ### Guard lines and pendant -/

theorem activeEdge_lit (i : Fin 8) {s : State} (h : s.lit) : (activeEdge i s).lit := by
  unfold activeEdge
  split
  · exact h
  next c _ =>
    have hlevel : (setLevel i (c.guardActiveLevel i) s).lit := h
    exact lit_ite h (lit_ite (guardEdge_lit i hlevel) hlevel)

theorem inactiveEdge_lit (i : Fin 8) {s : State} (h : s.lit) : (inactiveEdge i s).lit := by
  unfold inactiveEdge
  split <;> exact h

theorem setButton_lit (button : MotionButton) (pressed : Bool) {s : State} (h : s.lit) :
    (setButton button pressed s).lit := by
  cases button <;> exact h

theorem setHeld_lit (button : Option MotionButton) {s : State} (h : s.lit) :
    (setHeld button s).lit := h

theorem actOnPress_lit (button : MotionButton) {s : State} (h : s.lit) :
    (actOnPress button s).lit := by
  have hlocked : (s.setPendant { s.pendant with held := none, lockout := true }).lit := h
  exact lit_ite h
    (lit_ite (requestCommand_lit _ _ hlocked) (setHeld_lit _ (requestCommand_lit _ _ h)))

theorem pressMotion_lit (button : MotionButton) {s : State} (h : s.lit) :
    (pressMotion button s).lit := by
  have hpressed := setButton_lit button true h
  exact lit_ite h (lit_ite (actOnPress_lit button hpressed) hpressed)

theorem actOnRelease_lit (button : MotionButton) {s : State} (h : s.lit) :
    (actOnRelease button s).lit :=
  lit_ite (lit_ite h h) (lit_ite (setHeld_lit _ (requestCommand_lit _ _ h)) h)

theorem releaseMotion_lit (button : MotionButton) {s : State} (h : s.lit) :
    (releaseMotion button s).lit := by
  have hreleased := setButton_lit button false h
  exact lit_ite h (lit_ite (actOnRelease_lit button hreleased) hreleased)

theorem pressAck_lit {s : State} (h : s.lit) : (pressAck s).lit := by
  have hpressed : (s.setPendant { s.pendant with ack := true }).lit := h
  exact lit_ite h (lit_ite (requestCommand_lit _ _ hpressed) hpressed)

theorem pressMark_lit {s : State} (h : s.lit) : (pressMark s).lit := by
  have hpressed : (s.setPendant { s.pendant with mark := true }).lit := h
  exact lit_ite h (lit_ite (requestCommand_lit _ _ hpressed) hpressed)

theorem releaseSide_lit (button : SideButton) {s : State} (h : s.lit) :
    (releaseSide button s).lit := by
  cases button <;> exact h

theorem removePendant_lit {s : State} (h : s.lit) : (removePendant s).lit := by
  have hremoved :
      (s.setPendant { s.pendant with present := false, held := none, lockout := false }).lit := h
  exact lit_ite h (lit_ite (requestCommand_lit _ _ hremoved) hremoved)

theorem plugPendant_lit {s : State} (h : s.lit) : (plugPendant s).lit := h

end Sys2Proof.Machine

namespace Sys2Proof.Machine

/-! ### The Line Interface's own events -/

theorem filterFrame_lit (f : LineFrame) {s : State} (h : s.lit) : (filterFrame f s).lit := by
  unfold filterFrame
  split
  case h_1 => exact lit_ite h (lit_ite (report_lit _ h) (arriveFrame_lit _ h))
  all_goals exact lit_ite (arriveFrame_lit _ h) h

theorem receiveFrame_lit (bytes : List Byte) (framingError startedAtIdle : Bool) {s : State}
    (h : s.lit) : (receiveFrame bytes framingError startedAtIdle s).lit := by
  have hidle : (s.setLine { s.line with rxWaitsIdle := false }).lit := h
  unfold receiveFrame
  refine lit_ite h (lit_ite hidle ?_)
  split
  · exact hidle
  · exact filterFrame_lit _ hidle

theorem beginAttempt_lit {s : State} (h : s.lit) : (beginAttempt s).lit := by
  unfold beginAttempt
  refine lit_ite ?_ h
  split
  · exact h
  · exact lit_ite h h

theorem attemptSucceeds_lit {s : State} (h : s.lit) : (attemptSucceeds s).lit := by
  unfold attemptSucceeds
  split
  case h_1 =>
    dsimp only
    split
    · exact arriveFrame_lit _ h
    · exact h
  all_goals exact h

theorem loseArbitration_lit {s : State} (h : s.lit) : (loseArbitration s).lit := lit_ite h h

theorem transmitError_lit {s : State} (h : s.lit) : (transmitError s).lit :=
  lit_ite (lit_ite (report_lit _ h) h) h

/-! ### Samples -/

theorem startTransfer_lit {s : State} (h : s.lit) : (startTransfer s).lit :=
  lit_ite (lit_ite h (lit_ite h h)) h

theorem testOverrun_lit {s : State} (h : s.lit) : (testOverrun s).lit :=
  lit_ite (lit_ite (report_lit _ h) h) h

theorem controlPeriod_lit {s : State} (h : s.lit) : (controlPeriod s).lit := by
  have hrestarted : (s.setSensors { s.sensors with controlTimer := controlPeriodMs }).lit := h
  have htested := testOverrun_lit hrestarted
  exact startTransfer_lit htested

theorem spreadCheck_lit {s : State} (h : s.lit) : (spreadCheck s).lit := by
  unfold spreadCheck
  split
  · exact h
  · exact lit_ite (report_lit _ h) h

theorem followSample_lit {s : State} (h : s.lit) : (followSample s).lit := by
  have hspread := spreadCheck_lit h
  have hwork : (afterArrivalTest (spreadCheck s)).lit := lit_ite (arrive_lit _ hspread) hspread
  unfold followSample
  dsimp only
  split <;> exact hwork

theorem stallCheck_lit (height : Nat) {s : State} (h : s.lit) : (stallCheck height s).lit :=
  lit_ite h (lit_ite (report_lit _ h) (lit_ite h h))

theorem wrongDirectionCheck_lit (height : Nat) {s : State} (h : s.lit) :
    (wrongDirectionCheck height s).lit := lit_ite (report_lit _ h) h

theorem takeCheck_lit {brake : BrakeOrder} {start : State} {due : State → Bool} {cause : Cause}
    {check : State → State} {s : State} (hcheck : (check s).lit) (h : s.lit) :
    (takeCheck brake start due cause check s).lit :=
  lit_ite (lit_ite (report_lit _ h) h) hcheck

theorem takeStall_lit (brake : BrakeOrder) (start : State) (height : Nat) {s : State} (h : s.lit) :
    (takeStall brake start height s).lit := takeCheck_lit (stallCheck_lit height h) h

theorem takeWrongDirection_lit (brake : BrakeOrder) (start : State) (height : Nat) {s : State}
    (h : s.lit) : (takeWrongDirection brake start height s).lit :=
  takeCheck_lit (wrongDirectionCheck_lit height h) h

theorem driftCheck_lit (height : Nat) {s : State} (h : s.lit) : (driftCheck height s).lit := by
  unfold driftCheck
  split
  · exact h
  · exact lit_ite (report_lit _ h) h

theorem checkMotion_lit (valid : Bool) (order : SampleOrder) (start : State) {s : State}
    (h : s.lit) : (checkMotion valid order start s).lit := by
  unfold checkMotion
  split
  · exact driftCheck_lit _ (lit_ite (takeWrongDirection_lit _ _ _ (takeStall_lit _ _ _ h))
      (takeStall_lit _ _ _ (takeWrongDirection_lit _ _ _ h)))
  · exact h

theorem exitInit_lit (atPosition : Bool) {s : State} (h : s.lit) : (exitInit atPosition s).lit :=
  lit_ite (lit_ite (changePhase_lit _ h) h) (lit_ite (enterListenFromInit_lit h) h)

theorem positionRules_lit (valid : Bool) {s : State} (h : s.lit) : (positionRules valid s).lit := by
  unfold positionRules
  split
  case h_1 => exact exitInit_lit true (lit_ite h h)
  case h_2 => exact lit_ite (enterSeated_lit h) (lit_ite (report_lit _ h) h)
  all_goals exact h

theorem loadRules_lit {s : State} (h : s.lit) : (loadRules s).lit := by
  have hseen : (s.setPhases { s.phases with loadSeen := true }).lit := h
  unfold loadRules
  split
  case h_1 => exact exitInit_lit false hseen
  all_goals exact h

theorem takeSample_lit (valid : Bool) (order : SampleOrder) (start s : State) (taker : SampleTaker)
    (h : s.lit) : (takeSample valid order start s taker).lit := by
  cases taker with
  | follower => exact followSample_lit h
  | motionChecks => exact checkMotion_lit valid order start h
  | phaseRules => exact positionRules_lit valid h

theorem handSample_lit (valid : Bool) (order : SampleOrder) {s : State} (h : s.lit) :
    (handSample valid order s).lit := by
  have htake (takers : List SampleTaker) {u : State} (hu : u.lit) :
      (takers.foldl (takeSample valid order s) u).lit :=
    lit_foldl (takeSample_lit valid order s) takers hu
  have hfirst := htake ((takersOf order.takers).take order.takersBeforeReport) h
  exact htake _ (lit_ite (report_lit .sensorInvalid hfirst) hfirst)

theorem storePosition_lit (word : BitVec 18) {s : State} (h : s.lit) :
    (storePosition word s).lit := lit_ite h h

theorem completePosition_lit (word : BitVec 18) (order : SampleOrder) {s : State} (h : s.lit) :
    (completePosition word order s).lit := by
  have hidle : (s.setSensors { s.sensors with port := .idle, overrunCount := 0 }).lit := h
  exact lit_ite (startTransfer_lit (handSample_lit _ order (storePosition_lit word hidle))) h

theorem contactSet_lit {s : State} (h : s.lit) : (contactSet s).lit := by
  unfold contactSet
  split
  case h_1 => exact enterSeated_lit h
  all_goals exact h

theorem contactCleared_lit {s : State} (h : s.lit) : (contactCleared s).lit := by
  unfold contactCleared
  split
  case h_1 | h_2 | h_3 => exact report_lit _ h
  case h_4 => exact changePhase_lit _ h
  all_goals exact h

theorem qualifyContact_lit (c : ConfigValues) (first : Bool) {s : State} (h : s.lit) :
    (qualifyContact c first s).lit := by
  have hevent (contact : Bool) :
      (s.setSensors { s.sensors with contact := contact, contactRun := 0 }).lit := h
  exact lit_ite h
    (lit_ite (lit_ite (lit_ite (contactCleared_lit (hevent false)) h) h)
      (lit_ite (lit_ite (contactSet_lit (hevent true)) h) h))

theorem qualifyOverload_lit (c : ConfigValues) {s : State} (h : s.lit) :
    (qualifyOverload c s).lit := lit_ite (lit_ite (report_lit _ h) h) h

theorem takeLoad_lit (c : ConfigValues) (first : Bool) (order : LoadOrder) {s : State} (h : s.lit) :
    (takeLoad c first order s).lit := by
  cases order with
  | contactOverloadStart =>
    exact loadRules_lit (qualifyOverload_lit c (qualifyContact_lit c first h))
  | overloadContactStart =>
    exact loadRules_lit (qualifyContact_lit c first (qualifyOverload_lit c h))
  | contactStartOverload =>
    exact qualifyOverload_lit c (loadRules_lit (qualifyContact_lit c first h))

theorem completeLoad_lit (word : BitVec 12) (order : LoadOrder) {s : State} (h : s.lit) :
    (completeLoad word order s).lit := by
  have hidle : (s.setSensors { s.sensors with port := .idle }).lit := h
  unfold completeLoad
  refine lit_ite (startTransfer_lit ?_) h
  split
  · exact loadRules_lit hidle
  next c _ =>
    have hstored : (storeLoad c word (s.setSensors { s.sensors with port := .idle })).lit := h
    exact takeLoad_lit c _ order hstored

/-! ### Service frames -/

theorem setResult_lit (result : ConfigResult) {s : State} (h : s.lit) :
    (setResult result s).lit := h

theorem takeService_lit {accept : State → State} {s : State} (haccept : (accept s).lit)
    (h : s.lit) : (takeService accept s).lit := by
  unfold takeService
  split
  · exact setResult_lit _ h
  · exact haccept

theorem writeField_lit (id : Nat) (value : Word) {s : State} (h : s.lit) :
    (writeField id value s).lit := by
  unfold writeField
  split
  · exact setResult_lit _ h
  · exact lit_ite h (setResult_lit _ h)

theorem writeTolerance_lit (value : Word) {s : State} (h : s.lit) :
    (writeTolerance value s).lit := by
  unfold writeTolerance
  split
  · exact setResult_lit _ h
  · exact lit_ite h (setResult_lit _ h)

theorem startCommit_lit {s : State} (h : s.lit) : (startCommit s).lit := by
  unfold startCommit
  split
  · exact setResult_lit _ h
  · exact h

theorem handConfigWrite_lit {s : State} (h : s.lit) : (handConfigWrite s).lit := by
  unfold handConfigWrite
  split
  next _ _ rest _ =>
    have hdropped := dropHead_lit rest h
    exact lit_ite h (takeService_lit (writeField_lit _ _ hdropped) hdropped)
  next => exact h

theorem handTolRewind_lit {s : State} (h : s.lit) : (handTolRewind s).lit := by
  unfold handTolRewind
  split
  next _ _ rest _ =>
    have hdropped := dropHead_lit rest h
    exact lit_ite (takeService_lit hdropped hdropped) h
  next => exact h

theorem handTolWrite_lit {s : State} (h : s.lit) : (handTolWrite s).lit := by
  unfold handTolWrite
  split
  next _ rest _ =>
    have hdropped := dropHead_lit rest h
    exact takeService_lit (writeTolerance_lit _ hdropped) hdropped
  next => exact h

theorem handCommit_lit {s : State} (h : s.lit) : (handCommit s).lit := by
  unfold handCommit
  split
  next rest _ =>
    have hdropped := dropHead_lit rest h
    exact takeService_lit (startCommit_lit hdropped) hdropped
  next => exact h

theorem handRestart_lit (inputs : SampledInputs) {s : State} (h : s.lit) :
    (handRestart inputs s).lit := by
  unfold handRestart
  split
  next rest _ => exact takeService_lit (resetPart_lit .service inputs _) (dropHead_lit rest h)
  next => exact h

theorem handCloseSetup_lit {s : State} (h : s.lit) : (handCloseSetup s).lit := by
  unfold handCloseSetup
  split
  next rest _ => exact closeWindow_lit (dropHead_lit rest h)
  next => exact h

end Sys2Proof.Machine

namespace Sys2Proof.Machine

/-! ### The Peer Table (R87)

A table that is written anew leaves the blinking to be re-evaluated, unless no PRESENT entry of it
has changed its flag. -/

theorem lostNotice_lit (s : State) (station : Nat) (h : s.lit) : (lostNotice s station).lit := by
  unfold lostNotice
  split
  case h_1 => exact changePhase_lit _ h
  case h_9 | h_10 | h_11 => exact h
  all_goals exact report_lit _ h

/-- Ageing touches no flag (R12). -/
theorem agePeer_atTarget (e : PeerEntry) : (agePeer e).atTarget = e.atTarget := by
  unfold agePeer
  split
  · rfl
  · split <;> rfl

/-- An entry that a scan does not make LOST stays PRESENT or LOST as it was (R12, R13). -/
theorem agePeer_presence {peers : List PeerEntry} (h : lostByScan peers = []) {e : PeerEntry}
    (he : e ∈ peers) : (agePeer e).presence = e.presence := by
  simp only [lostByScan, List.map_eq_nil_iff, List.filter_eq_nil_iff, Bool.and_eq_true, beq_iff_eq,
    not_and] at h
  cases hp : e.presence with
  | lost => simp [agePeer, hp]
  | present =>
    cases hage : (agePeer e).presence with
    | present => rfl
    | lost => exact absurd hage (h e he hp)

/-- A scan that makes no entry LOST leaves the set-at-target condition (R12, R20). -/
theorem setAtTarget_scanned {s : State} (h : lostByScan s.peers = []) :
    setAtTarget s.scanned = setAtTarget s := by
  rw [Bool.eq_iff_iff, setAtTarget_iff, setAtTarget_iff]
  simp only [State.scanned, State.setPeers_phases, State.setScanTimer_phases, State.setPeers_peers,
    List.forall_mem_map]
  refine and_congr_right fun _ => forall₂_congr fun e he => ?_
  rw [agePeer_presence h he, agePeer_atTarget]

theorem scanned_litBeforeBlink {s : State} (h : s.lit) : s.scanned.litBeforeBlink := h.1

theorem silenceScan_lit {s : State} (h : s.lit) : (silenceScan s).lit := by
  rw [silenceScan_eq]
  refine lit_foldl lostNotice_lit _ ?_
  split
  next hnone =>
    obtain ⟨hbefore, hblink⟩ := h
    exact ⟨hbefore, hblink.trans (setAtTarget_scanned (List.isEmpty_iff.1 hnone)).symm⟩
  next => exact updateBlink_lit (scanned_litBeforeBlink h)

theorem epochItem_lit (epoch : BitVec 4) {s : State} (h : s.lit) : (epochItem epoch s).lit :=
  lit_ite h (lit_ite (acknowledge_lit h) h)

theorem haltItem_lit (station : Nat) (epoch : BitVec 4) (halt : HaltReport) {s : State}
    (h : s.lit) : (haltItem station epoch halt s).lit := by
  unfold haltItem
  split
  · exact lit_ite (latchPeerHalt_lit station h) h
  all_goals exact h

theorem completionNotice_lit {s : State} (h : s.lit) : (completionNotice s).lit :=
  lit_ite (changePhase_lit _ h) h

theorem afterItems_lit (e : PeerEntry) (restarted : Bool) {s : State} (h : s.lit) :
    (s.afterItems e restarted).lit := by
  have hepoch := epochItem_lit e.epoch h
  have htold : (if restarted then restartedNotice (epochItem e.epoch s)
      else epochItem e.epoch s).lit := lit_ite (lit_ite (report_lit _ hepoch) hepoch) hepoch
  exact haltItem_lit _ _ _ (lit_ite htold (lit_ite (report_lit _ htold) htold))

theorem statusNotice_lit (e : PeerEntry) (restarted wasComplete : Bool) {s : State} (h : s.lit) :
    (statusNotice e restarted wasComplete s).lit := by
  have hitems := afterItems_lit e restarted h
  rw [statusNotice_eq]
  exact evaluateSeating_lit (lit_ite (completionNotice_lit hitems) hitems)

theorem takeStatus_lit (station : BitVec 6) (f : StatusFields) {s : State} (h : s.lit) :
    (takeStatus station f s).lit := by
  unfold takeStatus
  split
  · exact h
  refine lit_ite h ?_
  split
  · exact h
  exact lit_ite (report_lit _ h) (statusNotice_lit _ _ _ (updateBlink_lit h.1))

theorem handStatus_lit {s : State} (h : s.lit) : (handStatus s).lit := by
  unfold handStatus
  split
  next _ _ rest _ => exact takeStatus_lit _ _ (dropHead_lit rest h)
  next => exact h

/-! ### Every step -/

theorem running_lit {effect : State → State} {s t : State} (ht : running s effect = .next t)
    (h : s.lit) (heffect : (effect s).lit) : t.lit := by
  obtain rfl := Host.Outcome.next.inj ht
  exact lit_ite h heffect

theorem exec_lit (i : Instr) {s t : State} (ht : exec i s = .next t) (h : s.lit) : t.lit := by
  cases i with
  | reset kind inputs =>
    obtain rfl := Host.Outcome.next.inj ht
    exact release_lit kind inputs h
  | resetApplied =>
    obtain rfl := Host.Outcome.next.inj ht
    exact applyReset_lit h
  | silenceScanExpiry => exact running_lit ht h (silenceScan_lit h)
  | controlPeriodExpiry => exact running_lit ht h (controlPeriod_lit h)
  | positionCompletion word order => exact running_lit ht h (completePosition_lit word order h)
  | loadCompletion word order => exact running_lit ht h (completeLoad_lit word order h)
  | statusTimerExpiry => exact running_lit (effect := fillSlot) ht h h
  | dwellExpiry => exact running_lit ht h (dwellExpiry_lit h)
  | settleExpiry => exact running_lit ht h (settleExpiry_lit h)
  | demandTimerExpiry => exact running_lit ht h (demandExpiry_lit h)
  | blinkTimerExpiry => exact running_lit ht h (blinkExpiry_lit h)
  | windowTimerExpiry => exact running_lit ht h (windowExpiry_lit h)
  | commitCompletion => exact running_lit ht h (completeCommit_lit h)
  | guardActiveEdge line => exact running_lit ht h (activeEdge_lit line h)
  | guardInactiveEdge line => exact running_lit ht h (inactiveEdge_lit line h)
  | motionButtonPress button => exact running_lit ht h (pressMotion_lit button h)
  | deadManRelease button => exact running_lit ht h (releaseMotion_lit button h)
  | ackButtonPress => exact running_lit ht h (pressAck_lit h)
  | markButtonPress => exact running_lit ht h (pressMark_lit h)
  | ackOrMarkRelease button => exact running_lit ht h (releaseSide_lit button h)
  | pendantRemoved => exact running_lit ht h (removePendant_lit h)
  | pendantPlugged => exact running_lit ht h (plugPendant_lit h)
  | frameReceived bytes framingError startedAtIdle =>
    exact running_lit ht h (receiveFrame_lit bytes framingError startedAtIdle h)
  | status => exact running_lit ht h (handStatus_lit h)
  | raise => exact running_lit ht h (handCommand_lit takeRaise_lit h)
  | lower => exact running_lit ht h (handCommand_lit takeLower_lit h)
  | hold => exact running_lit ht h (handCommand_lit takeHold_lit h)
  | estop => exact running_lit ht h (handCommand_lit takeEstop_lit h)
  | ack => exact running_lit ht h (handCommand_lit takeAck_lit h)
  | setMark => exact running_lit ht h (handCommand_lit takeSetMark_lit h)
  | clearMark => exact running_lit ht h (handCommand_lit takeClearMark_lit h)
  | configWrite => exact running_lit ht h (handConfigWrite_lit h)
  | tolRewind => exact running_lit ht h (handTolRewind_lit h)
  | tolWrite => exact running_lit ht h (handTolWrite_lit h)
  | commit => exact running_lit ht h (handCommit_lit h)
  | restart inputs => exact running_lit ht h (handRestart_lit inputs h)
  | closeSetup => exact running_lit ht h (handCloseSetup_lit h)
  | attempt => exact running_lit ht h (beginAttempt_lit h)
  | attemptSucceeds => exact running_lit ht h (attemptSucceeds_lit h)
  | transmitError => exact running_lit ht h (transmitError_lit h)
  | lostArbitration => exact running_lit ht h (loseArbitration_lit h)
  | commandKindUndefined => exact running_lit ht h (handUndefined_lit h)

theorem step_lit {s t : State} (ht : step s = .next t) (h : s.lit) : t.lit := by
  rw [step] at ht
  split at ht
  · obtain rfl := Host.Outcome.next.inj ht
    exact idleStep_lit h
  next c rest _ =>
    have htaken : (s.setPending rest).lit := h
    exact exec_lit c ht htaken

/-- Settles O59: every step keeps the lamps and the flags lit together. -/
theorem stepKeepsLampsSound : Obligations.StepKeepsLampsSound := by
  unfold Obligations.StepKeepsLampsSound
  intro s t hlamps hflags ht
  exact (lit_iff t).1 (step_lit ht ((lit_iff s).2 ⟨hlamps, hflags⟩))

end Sys2Proof.Machine

namespace Sys2Proof.Machine

/-! ### A COMMAND frame handed from the receive queue (R68, R166) -/

section
variable {s : State} {station : BitVec 6} {code : BitVec 4} {arg : Word} {rest : List RxFrame}

/-- A frame whose station names a column is taken. -/
theorem running_handCommand_of_column (hfree : s.held = false) {kind : CommandKind}
    (hq : s.line.rxQueue = .command station kind.code arg :: rest) (hzero : station ≠ 0#6)
    (hlast : station.toNat ≤ 48) (take : Word → State → State) :
    running s (handCommand kind take) = .next (take arg (s.afterHanding rest)) := by
  simp [hfree, handCommand, hq, (isColumnStation_iff station).2 ⟨hzero, hlast⟩, setLine_rxQueue]

/-- A frame whose station names no column is discarded. -/
theorem running_handCommand_of_noColumn (hfree : s.held = false) {kind : CommandKind}
    (hq : s.line.rxQueue = .command station kind.code arg :: rest)
    (hno : station = 0#6 ∨ 48 < station.toNat) (take : Word → State → State) :
    running s (handCommand kind take) = .next (s.afterHanding rest) := by
  have hcolumn : isColumnStation station = false := by
    rw [Bool.eq_false_iff, ne_eq, isColumnStation_iff]
    rintro ⟨hzero, hlast⟩
    rcases hno with h | h
    · exact hzero h
    · omega
  simp [hfree, handCommand, hq, hcolumn, setLine_rxQueue]

/-- A kind that names no command is discarded (R154). -/
theorem running_handUndefined (hfree : s.held = false)
    (hq : s.line.rxQueue = .command station code arg :: rest)
    (hcode : code = 0#4 ∨ 8 ≤ code.toNat) :
    running s handUndefined = .next (s.afterHanding rest) := by
  have hundefined : kindUndefined code = true := by
    rcases hcode with rfl | h
    · rfl
    · simp [kindUndefined, h]
  simp [hfree, handUndefined, hq, hundefined, setLine_rxQueue]

end

/-! ### A motion command taken (R69 to R72, R78) -/

/-- The Configuration Store with its setup window as a RAISE or LOWER taken leaves it (R78). -/
def StoreBlock.afterMotion (x : StoreBlock) : StoreBlock :=
  { x with
    windowOpen := x.windowOpen && x.setupStrap
    windowTimer := if x.windowOpen = true ∧ x.setupStrap = false then none else x.windowTimer }

theorem StoreBlock.afterMotion_of_kept {x : StoreBlock}
    (h : x.setupStrap = true ∨ x.windowOpen = false) : x.afterMotion = x := by
  cases x
  rcases h with rfl | rfl <;> simp [StoreBlock.afterMotion]

theorem closeWindowOnMotion_eq (s : State) :
    closeWindowOnMotion s = s.setStore s.store.afterMotion := by
  have hkeep (h : s.store.setupStrap = true ∨ s.store.windowOpen = false) :
      s = s.setStore s.store.afterMotion := by
    rw [StoreBlock.afterMotion_of_kept h]
    rfl
  unfold closeWindowOnMotion closeWindow
  split
  next hstrap => exact hkeep (Or.inl hstrap)
  next hstrap =>
    split
    next hopen => simp [StoreBlock.afterMotion, hopen, hstrap]
    next hopen => exact hkeep (Or.inr (Bool.eq_false_iff.2 hopen))

/-- The phases in which RAISE and LOWER do no more than close the window. -/
def Phase.ignoresMotion (p : Phase) : Prop :=
  p = .init ∨ p = .unconfigured ∨ p = .listen ∨ p = .halted

theorem Phase.not_ignoresMotion_iff (p : Phase) :
    ¬p.ignoresMotion ↔ p ≠ .init ∧ p ≠ .unconfigured ∧ p ≠ .listen ∧ p ≠ .halted := by
  simp [Phase.ignoresMotion]

theorem driveAfter_self (p : Phase) (d : DriveBlock) : driveAfter p p d = d := by
  cases p <;> simp [driveAfter, Phase.isMotion]

/-- From `s` to `t` a motion command is taken in full (R69): the target is replaced, the arrival
flags are cleared, and nothing moves but what the change to the phase `new` moves; seek start and
seated count are as given. -/
structure State.motionTaken (s t : State) (arg : Word) (new : Phase) (seekStart : Option Nat)
    (seatedCount : Nat) : Prop where
  phases : t.phases =
    { s.phases with
      phase := new, target := some (min arg.toNat 24000), atTarget := false, atMark := false
      seekStart := seekStart, seatedCount := seatedCount }
  drive : t.drive = driveAfter s.phases.phase new s.drive
  moved : s.onlyPhaseMoved t

theorem takeTarget_motionTaken (arg : Word) (s : State) :
    s.motionTaken (takeTarget arg s) arg s.phases.phase s.phases.seekStart
      s.phases.seatedCount where
  phases := by simp [takeTarget, maxHeight]
  drive := by simp [takeTarget, driveAfter_self]
  moved := updateBlink_onlyPhaseMoved _

section
variable {s t : State} {arg : Word} {p : Phase} {seekStart : Option Nat} {seatedCount : Nat}

theorem State.motionTaken.changePhase
    (h : s.motionTaken t arg s.phases.phase seekStart seatedCount) (new : Phase) :
    s.motionTaken (changePhase new t) arg new seekStart seatedCount where
  phases := by
    by_cases hp : t.phases.phase = new
    · rw [← hp, changePhase_same, h.phases]
    · rw [changePhase_phases hp, h.phases]
  drive := by
    rw [changePhase_drive, h.drive, h.phases, driveAfter_self]
    split
    next hp => rw [← hp, driveAfter_self]
    next => rfl
  moved := h.moved.trans (changePhase_onlyPhaseMoved t new)

theorem State.motionTaken.setSeekStart (h : s.motionTaken t arg p seekStart seatedCount)
    (x : Option Nat) :
    s.motionTaken (t.setPhases { t.phases with seekStart := x }) arg p x seatedCount where
  phases := by rw [State.setPhases_phases, h.phases]
  drive := h.drive
  moved := h.moved

theorem State.motionTaken.setSeatedCount (h : s.motionTaken t arg p seekStart seatedCount)
    (n : Nat) :
    s.motionTaken (t.setPhases { t.phases with seatedCount := n }) arg p seekStart n where
  phases := by rw [State.setPhases_phases, h.phases]
  drive := h.drive
  moved := h.moved

end

theorem takeTarget_changePhase_motionTaken (arg : Word) (s : State) (new : Phase) :
    s.motionTaken (changePhase new (takeTarget arg s)) arg new s.phases.seekStart
      s.phases.seatedCount :=
  (takeTarget_motionTaken arg s).changePhase new

section
variable (s : State)

@[simp] theorem closeWindowOnMotion_phases : (closeWindowOnMotion s).phases = s.phases := by
  rw [closeWindowOnMotion_eq, State.setStore_phases]
@[simp] theorem closeWindowOnMotion_drive : (closeWindowOnMotion s).drive = s.drive := by
  rw [closeWindowOnMotion_eq, State.setStore_drive]
@[simp] theorem closeWindowOnMotion_sensors : (closeWindowOnMotion s).sensors = s.sensors := by
  rw [closeWindowOnMotion_eq, State.setStore_sensors]
theorem closeWindowOnMotion_seatingHolds :
    seatingHolds (closeWindowOnMotion s) = seatingHolds s := by
  rw [closeWindowOnMotion_eq]
  rfl

end

/-- From `s` to `t` a RAISE or LOWER has been handed: the window is closed, and beside it nothing
moves but what the change to the phase `new` moves (R69, R78). -/
structure State.motionHandled (s t : State) (new : Phase) : Prop where
  phase : t.phases.phase = new
  drive : t.drive = driveAfter s.phases.phase new s.drive
  store : t.store = s.store.afterMotion
  moved : { s with store := t.store }.onlyPhaseMoved t

theorem motionHandled_of_ignored (s : State) :
    s.motionHandled (closeWindowOnMotion s) s.phases.phase where
  phase := by rw [closeWindowOnMotion_phases]
  drive := by rw [closeWindowOnMotion_drive, driveAfter_self]
  store := by rw [closeWindowOnMotion_eq, State.setStore_store]
  moved := by
    rw [closeWindowOnMotion_eq]
    exact .refl _

theorem State.motionTaken.handled {s t : State} {arg : Word} {new : Phase} {seekStart : Option Nat}
    {seatedCount : Nat}
    (h : (closeWindowOnMotion s).motionTaken t arg new seekStart seatedCount) :
    s.motionHandled t new := by
  have hstore : t.store = s.store.afterMotion := by
    obtain ⟨-, -, -, -, hstore, -⟩ := h.moved
    rw [hstore, closeWindowOnMotion_eq, State.setStore_store]
  have hdrive := h.drive
  rw [closeWindowOnMotion_phases, closeWindowOnMotion_drive] at hdrive
  refine ⟨by rw [h.phases], hdrive, hstore, ?_⟩
  rw [hstore]
  have hmoved := h.moved
  rwa [closeWindowOnMotion_eq] at hmoved

end Sys2Proof.Machine

namespace Sys2Proof.Machine

/-! ### LOWER (R71) -/

/-- The phase a LOWER leaves. -/
def Phase.afterLower : Phase → Phase
  | .ready => .retract
  | .seek => .ready
  | .seated => .lower
  | .lift => .hold
  | .hold => .lower
  | .lower => .lower
  | .retract => .retract
  | .init => .init
  | .unconfigured => .unconfigured
  | .listen => .listen
  | .halted => .halted

theorem takeLower_of_ignored (arg : Word) {s : State} (h : s.phases.phase.ignoresMotion) :
    takeLower arg s = closeWindowOnMotion s := by
  rcases h with h | h | h | h <;> simp [takeLower, h]

theorem takeLower_of_taken (arg : Word) {s : State} (h : ¬s.phases.phase.ignoresMotion) :
    takeLower arg s =
      changePhase s.phases.phase.afterLower (takeTarget arg (closeWindowOnMotion s)) := by
  have hstays := changePhase_same (takeTarget arg (closeWindowOnMotion s))
  rw [takeTarget_phase, closeWindowOnMotion_phases] at hstays
  rw [Phase.not_ignoresMotion_iff] at h
  simp only [takeLower, closeWindowOnMotion_phases]
  cases hp : s.phases.phase with
  | init | unconfigured | listen | halted => simp [hp] at h
  | ready | seek | seated | lift | hold => rfl
  | lower | retract => rw [hp] at hstays; exact hstays.symm

theorem takeLower_motionTaken (arg : Word) {s : State} (h : ¬s.phases.phase.ignoresMotion) :
    (closeWindowOnMotion s).motionTaken (takeLower arg s) arg s.phases.phase.afterLower
      s.phases.seekStart s.phases.seatedCount := by
  have htaken :=
    takeTarget_changePhase_motionTaken arg (closeWindowOnMotion s) s.phases.phase.afterLower
  rwa [closeWindowOnMotion_phases, ← takeLower_of_taken arg h] at htaken

theorem takeLower_handled (arg : Word) (s : State) :
    s.motionHandled (takeLower arg s) s.phases.phase.afterLower := by
  by_cases hi : s.phases.phase.ignoresMotion
  · have hstays : s.phases.phase.afterLower = s.phases.phase := by
      rcases hi with h | h | h | h <;> rw [h] <;> rfl
    rw [takeLower_of_ignored arg hi, hstays]
    exact motionHandled_of_ignored s
  · exact (takeLower_motionTaken arg hi).handled

/-- Settles O43: the window closes, and a LOWER that is not ignored is a new target and one change
of phase. -/
theorem lowerTakenByPhase : Obligations.LowerTakenByPhase := by
  unfold Obligations.LowerTakenByPhase
  intro s station arg rest hfree hq hzero hlast
  have hhandled := takeLower_handled arg (s.afterHanding rest)
  refine ⟨takeLower arg (s.afterHanding rest), ?_, ?_, ?_, fun hi => ?_, fun h1 h2 h3 h4 => ?_,
    hhandled.store, hhandled.moved⟩
  · exact running_handCommand_of_column hfree hq hzero hlast takeLower
  · rw [hhandled.phase]
    cases hp : s.phases.phase <;> simp [State.afterHanding, hp, Phase.afterLower]
  · rw [hhandled.drive, hhandled.phase]
    rfl
  · rw [takeLower_of_ignored (s := s.afterHanding rest) arg hi, closeWindowOnMotion_phases]
    rfl
  · have hi := (Phase.not_ignoresMotion_iff _).2 ⟨h1, h2, h3, h4⟩
    rw [(takeLower_motionTaken (s := s.afterHanding rest) arg hi).phases,
      closeWindowOnMotion_phases]
    rfl

/-! ### RAISE (R70) -/

/-- The phase a RAISE leaves. -/
def State.phaseAfterRaise (s : State) : Phase :=
  match s.phases.phase with
  | .ready => .seek
  | .seated => if seatingHolds s then .lift else .seated
  | .hold => .lift
  | .lower => .hold
  | .retract => .ready
  | .init => .init
  | .unconfigured => .unconfigured
  | .listen => .listen
  | .seek => .seek
  | .lift => .lift
  | .halted => .halted

theorem takeRaise_of_ignored (arg : Word) {s : State} (h : s.phases.phase.ignoresMotion) :
    takeRaise arg s = closeWindowOnMotion s := by
  rcases h with h | h | h | h <;> simp [takeRaise, h]

section
variable {s t : State} {arg : Word} {seekStart : Option Nat} {seatedCount : Nat}

/-- The entry into SEEK of a RAISE taken in READY (R53, R70). -/
theorem State.motionTaken.enterSeek
    (h : s.motionTaken t arg s.phases.phase seekStart seatedCount) :
    s.motionTaken (enterSeek t) arg .seek s.sensors.height seatedCount := by
  have hsensors : (Machine.changePhase .seek t).sensors = s.sensors := by
    obtain ⟨-, -, hsensors, -⟩ := h.moved
    rw [changePhase_sensors, hsensors]
  rw [Machine.enterSeek, hsensors]
  exact (h.changePhase .seek).setSeekStart s.sensors.height

/-- The seating evaluation of a RAISE taken in SEATED (R56, R70). -/
theorem State.motionTaken.evaluateSeating
    (h : s.motionTaken t arg s.phases.phase seekStart seatedCount)
    (hp : s.phases.phase = .seated) :
    s.motionTaken (evaluateSeating t) arg (if seatingHolds s then .lift else .seated) seekStart
      (countSeated s.peers) := by
  obtain ⟨hpeers, -, -, -, hstore, -⟩ := h.moved
  have hcount := h.setSeatedCount (countSeated s.peers)
  have hseated : t.phases.phase = .seated := by rw [h.phases, hp]
  rw [evaluateSeating_of_seated hseated, seatingHolds_congr hstore hpeers, hpeers]
  cases seatingHolds s with
  | true => exact hcount.changePhase .lift
  | false => rwa [hp] at hcount

end

theorem takeRaise_motionTaken (arg : Word) {s : State} (h : ¬s.phases.phase.ignoresMotion) :
    ∃ count, (closeWindowOnMotion s).motionTaken (takeRaise arg s) arg s.phaseAfterRaise
      (if s.phases.phase = .ready then s.sensors.height else s.phases.seekStart) count := by
  have htaken := takeTarget_motionTaken arg (closeWindowOnMotion s)
  have hchanged := takeTarget_changePhase_motionTaken arg (closeWindowOnMotion s)
  have hsought := htaken.enterSeek
  have hseated := htaken.evaluateSeating
  simp only [closeWindowOnMotion_phases, closeWindowOnMotion_sensors,
    closeWindowOnMotion_seatingHolds] at htaken hchanged hsought hseated
  rw [Phase.not_ignoresMotion_iff] at h
  simp only [takeRaise, State.phaseAfterRaise, closeWindowOnMotion_phases]
  cases hp : s.phases.phase with
  | init | unconfigured | listen | halted => simp [hp] at h
  | ready =>
    rw [if_pos rfl]
    exact ⟨_, hsought⟩
  | seek | lift => rw [hp] at htaken; exact ⟨_, htaken⟩
  | seated => exact ⟨_, hseated hp⟩
  | hold | lower | retract => exact ⟨_, hchanged _⟩

theorem takeRaise_handled (arg : Word) (s : State) :
    s.motionHandled (takeRaise arg s) s.phaseAfterRaise := by
  by_cases hi : s.phases.phase.ignoresMotion
  · have hstays : s.phaseAfterRaise = s.phases.phase := by
      rcases hi with h | h | h | h <;> simp [State.phaseAfterRaise, h]
    rw [takeRaise_of_ignored arg hi, hstays]
    exact motionHandled_of_ignored s
  · obtain ⟨_, htaken⟩ := takeRaise_motionTaken arg hi
    exact htaken.handled

/-- Settles O42: the window closes, and a RAISE that is not ignored is a new target and one change
of phase, with the seek start set or the seating evaluated on the way. -/
theorem raiseTakenByPhase : Obligations.RaiseTakenByPhase := by
  unfold Obligations.RaiseTakenByPhase
  intro s station arg rest hfree hq hzero hlast
  have hhandled := takeRaise_handled arg (s.afterHanding rest)
  have hexec : exec .raise s = .next (takeRaise arg (s.afterHanding rest)) :=
    running_handCommand_of_column hfree hq hzero hlast takeRaise
  have hphase : (takeRaise arg (s.afterHanding rest)).phases.phase = s.phaseAfterRaise :=
    hhandled.phase
  refine ⟨_, hexec, hphase, by rw [hphase]; exact hhandled.drive, ?_⟩
  by_cases hi : s.phases.phase.ignoresMotion
  · have hstay : (takeRaise arg (s.afterHanding rest)).phases = s.phases := by
      rw [takeRaise_of_ignored (s := s.afterHanding rest) arg hi, closeWindowOnMotion_phases]
      rfl
    have hready : s.phases.phase ≠ .ready := by
      rcases hi with h | h | h | h <;> simp [h]
    rw [hstay, if_neg hready]
    exact ⟨fun _ => rfl,
      fun h1 h2 h3 h4 => absurd hi ((Phase.not_ignoresMotion_iff _).2 ⟨h1, h2, h3, h4⟩),
      rfl, rfl, rfl, rfl, rfl, hhandled.store, hhandled.moved⟩
  · obtain ⟨_, htaken⟩ := takeRaise_motionTaken (s := s.afterHanding rest) arg hi
    have hphases := htaken.phases
    rw [closeWindowOnMotion_phases] at hphases
    rw [hphases]
    exact ⟨fun h => absurd h hi, fun _ _ _ _ => ⟨rfl, rfl, rfl⟩, rfl, rfl, rfl, rfl, rfl,
      hhandled.store, hhandled.moved⟩

end Sys2Proof.Machine

namespace Sys2Proof.Machine

/-! ### HOLD and ESTOP (R73, R76) -/

theorem takeHold_of_ignored (arg : Word) {s : State}
    (h : s.phases.phase = .init ∨ s.phases.phase = .unconfigured ∨ s.phases.phase = .listen ∨
      s.phases.phase = .ready ∨ s.phases.phase = .hold ∨ s.phases.phase = .halted) :
    takeHold arg s = s := by
  rcases h with h | h | h | h | h | h <;> simp [takeHold, h]

/-- A column that touches no load yet, or no more, goes to READY. -/
theorem takeHold_of_unloaded (arg : Word) {s : State}
    (h : s.phases.phase = .seek ∨ s.phases.phase = .retract) :
    takeHold arg s = changePhase .ready s := by
  rcases h with h | h <;> simp [takeHold, h]

theorem takeHold_of_loaded (arg : Word) {s : State}
    (h : s.phases.phase = .seated ∨ s.phases.phase = .lift ∨ s.phases.phase = .lower) :
    takeHold arg s = changePhase .hold s := by
  rcases h with h | h | h <;> simp [takeHold, h]

theorem takeHold_onlyPhaseMoved (arg : Word) (s : State) : s.onlyPhaseMoved (takeHold arg s) := by
  unfold takeHold
  split
  case h_7 | h_8 | h_9 | h_10 | h_11 => exact changePhase_onlyPhaseMoved s _
  all_goals exact .refl s

/-- The items a change to another phase leaves behind (R43, R111). -/
theorem changePhase_phases_drive {s : State} {new : Phase} (h : s.phases.phase ≠ new) :
    (changePhase new s).phases =
        { s.phases with phase := new, atTarget := false, atMark := false } ∧
      (changePhase new s).drive = driveAfter s.phases.phase new s.drive :=
  ⟨changePhase_phases h, changePhase_drive_of_ne s new h⟩

theorem takeEstop_of_starting (arg : Word) {s : State}
    (h : s.phases.phase = .init ∨ s.phases.phase = .unconfigured ∨ s.phases.phase = .listen) :
    takeEstop arg s = s := by
  rcases h with h | h | h <;> simp [takeEstop, h]

theorem takeEstop_of_acting (arg : Word) {s : State} (hinit : s.phases.phase ≠ .init)
    (hunconfigured : s.phases.phase ≠ .unconfigured) (hlisten : s.phases.phase ≠ .listen) :
    takeEstop arg s = report .estopCommand s := by
  unfold takeEstop
  split
  case h_1 | h_2 | h_3 => contradiction
  all_goals rfl

theorem takeEstop_frame (arg : Word) (s : State) :
    s.onlyPhaseMoved (takeEstop arg s) ∧ s.kept (takeEstop arg s) := by
  unfold takeEstop
  split
  case h_1 | h_2 | h_3 => exact ⟨.refl s, .refl s⟩
  all_goals exact ⟨report_onlyPhaseMoved s _, report_kept s _⟩

/-- Settles O44: HOLD is one change of phase, ESTOP one report. -/
theorem holdAndEstopTakenByPhase : Obligations.HoldAndEstopTakenByPhase := by
  unfold Obligations.HoldAndEstopTakenByPhase
  intro s station arg rest hfree hx hzero hlast
  have hx : (s.afterHanding rest).haltExact := hx
  refine ⟨fun hq => ⟨takeHold arg (s.afterHanding rest), ?_, fun h => ?_, fun h => ?_, fun h => ?_,
    takeHold_onlyPhaseMoved arg _⟩,
    fun hq => ⟨takeEstop arg (s.afterHanding rest), ?_, fun h => ?_,
      fun hinit hunconf hlisten => ?_, takeEstop_frame arg _⟩⟩
  · exact running_handCommand_of_column hfree hq hzero hlast takeHold
  · have hne : (s.afterHanding rest).phases.phase ≠ .ready := by
      rcases h with h | h <;> simp [State.afterHanding, h]
    rw [takeHold_of_unloaded (s := s.afterHanding rest) arg h]
    exact changePhase_phases_drive hne
  · have hne : (s.afterHanding rest).phases.phase ≠ .hold := by
      rcases h with h | h | h <;> simp [State.afterHanding, h]
    rw [takeHold_of_loaded (s := s.afterHanding rest) arg h]
    exact changePhase_phases_drive hne
  · exact takeHold_of_ignored arg h
  · exact running_handCommand_of_column hfree hq hzero hlast takeEstop
  · exact takeEstop_of_starting arg h
  · rw [takeEstop_of_acting (s := s.afterHanding rest) arg hinit hunconf hlisten]
    have hphase := report_phase (s.afterHanding rest) .estopCommand hx
    obtain ⟨-, -, -, horigin⟩ := report_keeps .estopCommand (s.afterHanding rest)
    have hhalted : (s.afterHanding rest).phaseWithCause = .halted :=
      if_neg (not_or.2 ⟨hinit, hunconf⟩)
    exact ⟨hphase.trans hhalted, report_causes _ _, horigin, report_drive _ _ hx hinit hunconf⟩

/-! ### ACK and the mark (R74, R75, R77) -/

/-- An ACK with own epoch is an acknowledgement (R124). -/
theorem takeAck_of_own {arg : Word} {s : State} (h : arg.toNat = s.phases.epoch.toNat) :
    takeAck arg s = acknowledge s := if_pos h

/-- An ACK with another epoch does nothing (R124). -/
theorem takeAck_of_other {arg : Word} {s : State} (h : arg.toNat ≠ s.phases.epoch.toNat) :
    takeAck arg s = s := if_neg h

theorem takeSetMark_eq (arg : Word) (s : State) :
    takeSetMark arg s =
      if s.phases.phase = .hold ∧ s.sensors.contact = true then
        s.setPhases { s.phases with mark := s.sensors.height }
      else s := by
  simp [takeSetMark]

theorem takeClearMark_eq (arg : Word) (s : State) :
    takeClearMark arg s =
      if (s.phases.phase = .ready ∨ s.phases.phase = .hold) ∧ s.phases.mark ≠ none then
        s.setPhases { s.phases with mark := none, atMark := false }
      else s := by
  simp [takeClearMark, ite_and, Option.isSome_iff_ne_none]

/-- Settles O45: each command by its taking, and the discards by the handing of the frame. -/
theorem ackMarksAndDiscards : Obligations.AckMarksAndDiscards := by
  unfold Obligations.AckMarksAndDiscards
  intro s station kind arg rest hfree hq
  refine ⟨fun hzero hlast => ⟨?_, ?_, ?_, ?_⟩, running_handUndefined hfree hq, fun hno => ?_⟩
  · rintro rfl hepoch
    exact (running_handCommand_of_column hfree hq hzero hlast takeAck).trans
      (congrArg _ (takeAck_of_own (s := s.afterHanding rest) hepoch))
  · rintro rfl hepoch
    exact (running_handCommand_of_column hfree hq hzero hlast takeAck).trans
      (congrArg _ (takeAck_of_other (s := s.afterHanding rest) hepoch))
  · rintro rfl
    exact (running_handCommand_of_column hfree hq hzero hlast takeSetMark).trans
      (congrArg _ (takeSetMark_eq arg _))
  · rintro rfl
    exact (running_handCommand_of_column hfree hq hzero hlast takeClearMark).trans
      (congrArg _ (takeClearMark_eq arg _))
  · refine ⟨?_, ?_, ?_, ?_, ?_, ?_, ?_⟩ <;> rintro rfl <;>
      exact running_handCommand_of_noColumn hfree hq hno _

end Sys2Proof.Machine

namespace Sys2Proof.Machine

/-! ### The motion buttons (R80 to R83) -/

theorem pendantActs_iff (s : State) : pendantActs s = true ↔ s.pendantHeard := by
  simp [pendantActs, State.pendantHeard, and_assoc]

theorem pendantActs_of_unheard {s : State} (h : ¬s.pendantHeard) : pendantActs s = false := by
  rwa [← Bool.not_eq_true, pendantActs_iff]

/-- The buttons and the lockout play no part in what is heard. -/
theorem pendantActs_setPendant (s : State) (x : PendantBlock) (h : x.present = s.pendant.present) :
    pendantActs (s.setPendant x) = pendantActs s := by
  simp [pendantActs, h]

/-- A request reads and writes no item of the pendant. -/
theorem requestCommand_setPendant (kind : CommandKind) (arg : Word) (s : State) (x : PendantBlock) :
    (requestCommand kind arg s).setPendant x = requestCommand kind arg (s.setPendant x) := by
  by_cases hdisabled : s.line.tx = .disabled
  · simp [requestCommand, hdisabled]
  · cases hqueue : requestQueue kind arg s.line.queue with
    | none => simp [requestCommand, hdisabled, hqueue]
    | some queue =>
      simp only [requestCommand, State.setPendant_line, hdisabled, if_false, hqueue]
      rfl

section
variable (button : MotionButton) (level : Bool) (s : State)

theorem setButton_self : setButton button (buttonLevel s button) s = s := by
  cases button <;> rfl

theorem pendantActs_setButton : pendantActs (setButton button level s) = pendantActs s := by
  cases button <;> rfl

theorem setButton_lockout : (setButton button level s).pendant.lockout = s.pendant.lockout := by
  cases button <;> rfl

theorem setButton_held : (setButton button level s).pendant.held = s.pendant.held := by
  cases button <;> rfl

theorem buttonLevel_setButton_other :
    buttonLevel (setButton button level s) (otherButton button) =
      buttonLevel s (otherButton button) := by
  cases button <;> rfl

theorem buttonTarget_setButton (b : MotionButton) :
    buttonTarget (setButton button level s) b = buttonTarget s b := by
  cases button <;> rfl

end

section
variable {s : State} {button : MotionButton}

/-- A press that is not acted on enters its level, whatever the level was (R80). -/
theorem pressMotion_of_unheard (h : ¬s.pendantHeard) :
    pressMotion button s = setButton button true s := by
  have hdeaf := pendantActs_of_unheard h
  unfold pressMotion
  split
  next hlevel => rw [← hlevel, setButton_self]
  next => simp [pendantActs_setButton, hdeaf]

theorem releaseMotion_of_unheard (h : ¬s.pendantHeard) :
    releaseMotion button s = setButton button false s := by
  have hdeaf := pendantActs_of_unheard h
  unfold releaseMotion
  split
  next hlevel =>
    rw [Bool.not_eq_true'] at hlevel
    rw [← hlevel, setButton_self]
  next => simp [pendantActs_setButton, hdeaf]

/-- Under a lockout a press requests nothing (R83). -/
theorem pressMotion_of_lockout (h : s.pendant.lockout = true) :
    pressMotion button s = setButton button true s := by
  unfold pressMotion
  split
  next hlevel => rw [← hlevel, setButton_self]
  next => simp [actOnPress, setButton_lockout, h]

theorem pressMotion_of_heard (h : s.pendantHeard) (hlevel : buttonLevel s button = false) :
    pressMotion button s = actOnPress button (setButton button true s) := by
  simp [pressMotion, hlevel, pendantActs_setButton, (pendantActs_iff s).2 h]

theorem releaseMotion_of_heard (h : s.pendantHeard) (hlevel : buttonLevel s button = true) :
    releaseMotion button s = actOnRelease button (setButton button false s) := by
  simp [releaseMotion, hlevel, pendantActs_setButton, (pendantActs_iff s).2 h]

end

/-! A change that is acted on. -/

section
variable {s : State} {button : MotionButton}

theorem buttonTarget_raise {c : ConfigValues} (hc : s.store.active = some c) :
    buttonTarget s .raise = c.fields.hWork := by simp [buttonTarget, hc]

theorem buttonTarget_lower {c : ConfigValues} (hc : s.store.active = some c) :
    buttonTarget s .lower = c.fields.hRest := by simp [buttonTarget, hc]

/-- Alone, a press requests its command and is the held one (R81). -/
theorem pressMotion_of_alone (hheard : s.pendantHeard) (hlevel : buttonLevel s button = false)
    (hlock : s.pendant.lockout = false) (hother : buttonLevel s (otherButton button) = false) :
    pressMotion button s =
      requestCommand (buttonCommand button) (buttonTarget s button)
        (setHeld (some button) (setButton button true s)) := by
  simp [pressMotion_of_heard hheard hlevel, actOnPress, setButton_lockout, hlock,
    buttonLevel_setButton_other, hother, buttonTarget_setButton, setHeld, requestCommand_setPendant]

/-- With the other button pressed, a press requests HOLD and starts the lockout (R83). -/
theorem pressMotion_of_both (hheard : s.pendantHeard) (hlevel : buttonLevel s button = false)
    (hlock : s.pendant.lockout = false) (hother : buttonLevel s (otherButton button) = true) :
    pressMotion button s =
      requestCommand .hold 0#16
        ((setButton button true s).setPendant
          { (setButton button true s).pendant with held := none, lockout := true }) := by
  simp [pressMotion_of_heard hheard hlevel, actOnPress, setButton_lockout, hlock,
    buttonLevel_setButton_other, hother]

/-- A release under a lockout ends it when the other button is up as well (R83). -/
theorem releaseMotion_of_lockout (hheard : s.pendantHeard) (hlevel : buttonLevel s button = true)
    (hlock : s.pendant.lockout = true) :
    releaseMotion button s =
      (setButton button false s).setPendant
        { (setButton button false s).pendant with
          lockout := buttonLevel s (otherButton button) } := by
  have hup : (!(setButton button false s).pendant.raise &&
      !(setButton button false s).pendant.lower) = !buttonLevel s (otherButton button) := by
    cases button <;> simp [setButton, buttonLevel, otherButton]
  have hlocked : (setButton button false s).pendant.lockout = true := by
    rw [setButton_lockout, hlock]
  have hstays : setButton button false s = (setButton button false s).setPendant
      { (setButton button false s).pendant with lockout := true } := by
    rw [← hlocked]
    rfl
  rw [releaseMotion_of_heard hheard hlevel, actOnRelease, if_pos hlocked, hup]
  cases buttonLevel s (otherButton button) with
  | true => exact hstays
  | false => rfl

/-- The release of the held button requests HOLD (R82). -/
theorem releaseMotion_of_held (hheard : s.pendantHeard) (hlevel : buttonLevel s button = true)
    (hlock : s.pendant.lockout = false) (hheld : s.pendant.held = some button) :
    releaseMotion button s =
      requestCommand .hold 0#16 (setHeld none (setButton button false s)) := by
  simp [releaseMotion_of_heard hheard hlevel, actOnRelease, setButton_lockout, hlock,
    setButton_held, hheld, setHeld, requestCommand_setPendant]

/-- The release of a button that is not the held one enters its level alone (R82). -/
theorem releaseMotion_of_other (hheard : s.pendantHeard) (hlevel : buttonLevel s button = true)
    (hlock : s.pendant.lockout = false) (hheld : s.pendant.held ≠ some button) :
    releaseMotion button s = setButton button false s := by
  simp [releaseMotion_of_heard hheard hlevel, actOnRelease, setButton_lockout, hlock,
    setButton_held, hheld]

end

/-- Settles O19: each case by what the press or the release does, for either button. -/
theorem motionButtonsRequest : Obligations.MotionButtonsRequest := by
  unfold Obligations.MotionButtonsRequest
  intro s hfree hheard
  have hpress (b : MotionButton) : exec (.motionButtonPress b) s = .next (pressMotion b s) :=
    running_of_free hfree
  have hrelease (b : MotionButton) : exec (.deadManRelease b) s = .next (releaseMotion b s) :=
    running_of_free hfree
  simp only [hpress, hrelease, Host.Outcome.next.injEq]
  refine ⟨fun hlock => ⟨pressMotion_of_lockout hlock, pressMotion_of_lockout hlock⟩,
    fun hlock hup => ⟨fun hother c hc => ?_,
      fun hother => pressMotion_of_both hheard hup hlock hother⟩,
    fun hlock hup => ⟨fun hother c hc => ?_,
      fun hother => pressMotion_of_both hheard hup hlock hother⟩,
    fun hdown => ⟨fun hlock => releaseMotion_of_lockout hheard hdown hlock,
      fun hlock hheld => releaseMotion_of_held hheard hdown hlock hheld,
      fun hlock hheld => releaseMotion_of_other hheard hdown hlock hheld⟩,
    fun hdown => ⟨fun hlock => releaseMotion_of_lockout hheard hdown hlock,
      fun hlock hheld => releaseMotion_of_held hheard hdown hlock hheld,
      fun hlock hheld => releaseMotion_of_other hheard hdown hlock hheld⟩⟩
  · rw [← buttonTarget_raise hc]
    exact pressMotion_of_alone hheard hup hlock hother
  · rw [← buttonTarget_lower hc]
    exact pressMotion_of_alone hheard hup hlock hother

/-! ### The ACK and MARK buttons, and the presence (R84, R85) -/

section
variable {s : State}

theorem pressAck_of_heard (hheard : s.pendantHeard) (hup : s.pendant.ack = false) :
    pressAck s =
      requestCommand .ack (s.phases.epoch.setWidth 16)
        (s.setPendant { s.pendant with ack := true }) := by
  simp [pressAck, hup, pendantActs_setPendant, (pendantActs_iff s).2 hheard]

theorem pressMark_of_heard (hheard : s.pendantHeard) (hup : s.pendant.mark = false) :
    pressMark s =
      requestCommand (if s.phases.mark = none then .setMark else .clearMark) 0#16
        (s.setPendant { s.pendant with mark := true }) := by
  rw [pressMark, if_neg (by simp [hup])]
  simp only [pendantActs_setPendant, (pendantActs_iff s).2 hheard, if_true]
  cases hmark : s.phases.mark <;> simp [hmark]

/-- A press that is not acted on enters its level, whatever the level was (R80). -/
theorem pressAck_of_unheard (h : ¬s.pendantHeard) :
    pressAck s = s.setPendant { s.pendant with ack := true } := by
  have hdeaf := pendantActs_of_unheard h
  unfold pressAck
  split
  next hdown =>
    rw [← hdown]
    rfl
  next => simp [pendantActs_setPendant, hdeaf]

theorem pressMark_of_unheard (h : ¬s.pendantHeard) :
    pressMark s = s.setPendant { s.pendant with mark := true } := by
  have hdeaf := pendantActs_of_unheard h
  unfold pressMark
  split
  next hdown =>
    rw [← hdown]
    rfl
  next => simp [pendantActs_setPendant, hdeaf]

/-- A pendant pulled out under a held button requests HOLD (R84). -/
theorem removePendant_of_held (hpresent : s.pendant.present = true)
    (hheld : s.pendant.held ≠ none) :
    removePendant s =
      requestCommand .hold 0#16
        (s.setPendant { s.pendant with present := false, held := none, lockout := false }) := by
  simp [removePendant, hpresent, Option.isSome_iff_ne_none.2 hheld]

theorem removePendant_of_free (hpresent : s.pendant.present = true)
    (hheld : s.pendant.held = none) :
    removePendant s = s.setPendant { s.pendant with present := false, lockout := false } := by
  simp [removePendant, hpresent, hheld]

theorem not_pendantHeard (h : s.pendant.present = false ∨ s.phases.phase = .init ∨
    s.phases.phase = .unconfigured) : ¬s.pendantHeard := by
  rintro ⟨hpresent, hinit, hunconfigured⟩
  rcases h with h | h | h
  · rw [hpresent] at h
    exact absurd h (by decide)
  · exact hinit h
  · exact hunconfigured h

end

/-- Settles O20: each button by its own lemma; a change that is not heard enters its level alone. -/
theorem sideButtonsAndPresence : Obligations.SideButtonsAndPresence := by
  unfold Obligations.SideButtonsAndPresence
  intro s hfree
  have hrunning (effect : State → State) : running s effect = .next (effect s) :=
    running_of_free hfree
  refine ⟨fun hheard hup => ?_, fun hheard hup => ?_, hrunning _, hrunning _,
    fun hpresent hheld => ?_, fun hpresent hheld => ?_, hrunning _, fun hdeaf => ?_⟩
  · exact (hrunning pressAck).trans (congrArg _ (pressAck_of_heard hheard hup))
  · exact (hrunning pressMark).trans (congrArg _ (pressMark_of_heard hheard hup))
  · exact (hrunning removePendant).trans (congrArg _ (removePendant_of_held hpresent hheld))
  · exact (hrunning removePendant).trans (congrArg _ (removePendant_of_free hpresent hheld))
  · have hunheard := not_pendantHeard hdeaf
    exact ⟨(hrunning _).trans (congrArg _ (pressMotion_of_unheard hunheard)),
      (hrunning _).trans (congrArg _ (pressMotion_of_unheard hunheard)),
      (hrunning _).trans (congrArg _ (releaseMotion_of_unheard hunheard)),
      (hrunning _).trans (congrArg _ (releaseMotion_of_unheard hunheard)),
      (hrunning pressAck).trans (congrArg _ (pressAck_of_unheard hunheard)),
      (hrunning pressMark).trans (congrArg _ (pressMark_of_unheard hunheard))⟩

end Sys2Proof.Machine

/-! ## Position and load sensing: proofs of the family's statements -/

namespace Sys2Proof.Machine

/-! ### The control period (R89 to R92) -/

/-- The Sensor Port with its overrun count raised where the expiry came late (R90). -/
def State.overrunCounted (s : State) : State :=
  s.setSensors
    { s.sensors with
      overrunCount :=
        if isOverrun s then min (s.sensors.overrunCount + 1) 3 else s.sensors.overrunCount }

/-- An overrun that brings or finds the count at 3 reports SENSOR_STALE (R91). -/
theorem testOverrun_of_stale {s : State} (hlate : isOverrun s = true)
    (hcount : 2 ≤ s.sensors.overrunCount) :
    testOverrun s = report .sensorStale s.overrunCounted := by
  have hlimit : min (s.sensors.overrunCount + 1) badSampleLimit = badSampleLimit :=
    Nat.min_eq_right (Nat.succ_le_succ hcount)
  simp only [testOverrun, State.overrunCounted, hlate, hlimit, if_true]

/-- Any other expiry reports nothing. -/
theorem testOverrun_of_fresh {s : State}
    (h : isOverrun s = false ∨ s.sensors.overrunCount < 2) : testOverrun s = s.overrunCounted := by
  by_cases hlate : isOverrun s = true
  · have hcount : s.sensors.overrunCount < 2 := h.resolve_left (by simp [hlate])
    have hlimit : min (s.sensors.overrunCount + 1) badSampleLimit ≠ badSampleLimit := by
      simp only [badSampleLimit]
      omega
    simp only [testOverrun, State.overrunCounted, hlate, hlimit, if_true, if_false]
  · simp only [testOverrun, State.overrunCounted, hlate, Bool.false_eq_true, if_false]
    rfl

theorem testOverrun_sensors (s : State) : (testOverrun s).sensors = s.overrunCounted.sensors := by
  by_cases h : isOverrun s = true ∧ 2 ≤ s.sensors.overrunCount
  · obtain ⟨hlate, hcount⟩ := h
    rw [testOverrun_of_stale hlate hcount, report_sensors]
  · rw [testOverrun_of_fresh]
    rwa [not_and_or, Bool.not_eq_true, Nat.not_le] at h

/-- Both requests pending, and the position request served at once by an idle port (R92). -/
def SensorBlock.posted (p : SensorBlock) : SensorBlock :=
  { p with
    positionRequest := p.port != .idle
    loadRequest := true
    port := if p.port = .idle then .position else p.port }

theorem startTransfer_posted (s : State) :
    startTransfer (s.setSensors { s.sensors with positionRequest := true, loadRequest := true }) =
      s.setSensors s.sensors.posted := by
  cases hp : s.sensors.port <;> simp [startTransfer, SensorBlock.posted, State.setSensors, hp]

/-- The part with the control period restarted (R89). -/
def State.periodBegun (s : State) : State := s.setSensors { s.sensors with controlTimer := 10 }

/-- The four steps of a control period expiry (R89). -/
theorem controlPeriod_eq (s : State) :
    controlPeriod s =
      (testOverrun s.periodBegun).setSensors s.periodBegun.overrunCounted.sensors.posted := by
  rw [← testOverrun_sensors, ← startTransfer_posted]
  rfl

/-- Settles O11: the late expiry that finds a count of 2 reports, every other leaves the other
blocks. -/
theorem controlPeriodPostsRequests : Obligations.ControlPeriodPostsRequests := by
  unfold Obligations.ControlPeriodPostsRequests
  intro s late hfree hlate
  have hover : late = isOverrun s.periodBegun := hlate
  refine ⟨controlPeriod s, running_of_free hfree, ?_, fun hfresh => ?_, fun hbad hcount hx => ?_⟩
  · rw [controlPeriod_eq, hover]
    rfl
  · rw [hover] at hfresh
    rw [controlPeriod_eq, testOverrun_of_fresh hfresh]
    rfl
  · rw [controlPeriod_eq, testOverrun_of_stale (s := s.periodBegun) (hover ▸ hbad) hcount]
    obtain ⟨hpeers, hscan, -, hrest⟩ :=
      report_onlyPhaseMoved s.periodBegun.overrunCounted .sensorStale
    exact ⟨report_causes _ _, report_phase _ _ hx, ⟨hpeers, hscan, rfl, hrest⟩, report_kept _ _⟩

end Sys2Proof.Machine

namespace Sys2Proof.Machine

/-! ### The contact qualifier (R100, R101) -/

/-- A load sample speaks against CONTACT: below the release threshold with it set, at or above
W_CONTACT with it clear (R101). -/
def SensorBlock.speaksAgainst (p : SensorBlock) (c : ConfigValues) : Bool :=
  if p.contact then p.load.getD 0 < c.releaseThreshold
  else c.tol.wContact.toNat ≤ p.load.getD 0

theorem SensorBlock.speaksAgainst_of_clear {p : SensorBlock} {load : Nat}
    (hload : p.load = some load) (hclear : p.contact = false) (c : ConfigValues) :
    p.speaksAgainst c = true ↔ c.tol.wContact.toNat ≤ load := by
  simp [SensorBlock.speaksAgainst, hclear, hload]

theorem SensorBlock.speaksAgainst_of_set {p : SensorBlock} {load : Nat}
    (hload : p.load = some load) (hset : p.contact = true) (c : ConfigValues) :
    p.speaksAgainst c = true ↔ load < c.tol.wContact.toNat - c.tol.wContact.toNat / 8 := by
  simp [SensorBlock.speaksAgainst, hset, hload, ConfigValues.releaseThreshold]

/-- The event of a change of CONTACT acts by phase (R62). -/
def contactEvent (contact : Bool) (s : State) : State :=
  if contact then contactSet s else contactCleared s

/-- Behind the first sample: one that agrees with CONTACT ends the run, one that speaks against it
prolongs the run, and the fourth running changes CONTACT and hands on the event (R101). -/
theorem qualifyContact_later (c : ConfigValues) (s : State) :
    qualifyContact c false s =
      if s.sensors.speaksAgainst c = true then
        if s.sensors.contactRun < 3 then
          s.setSensors { s.sensors with contactRun := s.sensors.contactRun + 1 }
        else
          contactEvent (!s.sensors.contact)
            (s.setSensors { s.sensors with contact := !s.sensors.contact, contactRun := 0 })
      else s.setSensors { s.sensors with contactRun := 0 } := by
  have hshort : s.sensors.contactRun < 3 ↔ ¬contactSamples ≤ s.sensors.contactRun + 1 := by
    simp only [contactSamples]
    omega
  simp only [hshort, ite_not]
  cases hcontact : s.sensors.contact with
  | false => simp [qualifyContact, SensorBlock.speaksAgainst, contactEvent, hcontact]
  | true => simp [qualifyContact, SensorBlock.speaksAgainst, contactEvent, hcontact]

section
variable {c : ConfigValues} {s : State}

theorem qualifyContact_of_agreeing (h : ¬s.sensors.speaksAgainst c = true) :
    qualifyContact c false s = s.setSensors { s.sensors with contactRun := 0 } :=
  (qualifyContact_later c s).trans (if_neg h)

theorem qualifyContact_of_run (h : s.sensors.speaksAgainst c = true)
    (hrun : s.sensors.contactRun < 3) :
    qualifyContact c false s =
      s.setSensors { s.sensors with contactRun := s.sensors.contactRun + 1 } :=
  (qualifyContact_later c s).trans ((if_pos h).trans (if_pos hrun))

theorem qualifyContact_of_fourth (h : s.sensors.speaksAgainst c = true)
    (hrun : 3 ≤ s.sensors.contactRun) :
    qualifyContact c false s =
      contactEvent (!s.sensors.contact)
        (s.setSensors { s.sensors with contact := !s.sensors.contact, contactRun := 0 }) :=
  (qualifyContact_later c s).trans ((if_pos h).trans (if_neg (Nat.not_lt.2 hrun)))

end

/-! ### The overload qualifier (R102) -/

theorem overloadQ_eq (c : ConfigValues) :
    c.overloadQ =
      if c.fields.ovlQualify = 0#16 then 3
      else if c.fields.ovlQualify = 1#16 then 6
      else if c.fields.ovlQualify = 2#16 then 12
      else 24 := by
  simp only [ConfigValues.overloadQ, ← BitVec.toNat_inj, BitVec.reduceToNat]
  split <;> simp_all

/-- The Sensor Port with the overload run counted up to Q, or ended (R102). -/
def SensorBlock.overloadCounted (p : SensorBlock) (c : ConfigValues) : SensorBlock :=
  { p with
    overloadRun :=
      if c.tol.wCapacity.toNat ≤ p.load.getD 0 then min (p.overloadRun + 1) c.overloadQ else 0 }

theorem qualifyOverload_of_full {c : ConfigValues} {s : State}
    (hload : c.tol.wCapacity.toNat ≤ s.sensors.load.getD 0)
    (hrun : c.overloadQ ≤ s.sensors.overloadRun + 1) :
    qualifyOverload c s = report .overload (s.setSensors (s.sensors.overloadCounted c)) := by
  simp only [qualifyOverload, SensorBlock.overloadCounted, hload, Nat.min_eq_right hrun, if_true]

theorem qualifyOverload_of_short {c : ConfigValues} {s : State}
    (h : c.tol.wCapacity.toNat ≤ s.sensors.load.getD 0 → s.sensors.overloadRun + 1 < c.overloadQ) :
    qualifyOverload c s = s.setSensors (s.sensors.overloadCounted c) := by
  by_cases hload : c.tol.wCapacity.toNat ≤ s.sensors.load.getD 0
  · have hlt := h hload
    have hmin : min (s.sensors.overloadRun + 1) c.overloadQ ≠ c.overloadQ := by omega
    simp only [qualifyOverload, SensorBlock.overloadCounted, hload, hmin, if_true, if_false]
  · simp only [qualifyOverload, SensorBlock.overloadCounted, hload, if_false]

/-! ### The contact qualifier's events by phase (R60, R62) -/

theorem contactSet_of_seek {s : State} (h : s.phases.phase = .seek) :
    contactSet s = enterSeated s := by
  simp only [contactSet, h]

theorem contactSet_of_other {s : State} (h : s.phases.phase ≠ .seek) : contactSet s = s := by
  unfold contactSet
  split
  case h_1 hp => exact absurd hp h
  all_goals rfl

theorem contactCleared_of_loaded {s : State}
    (h : s.phases.phase = .seated ∨ s.phases.phase = .lift ∨ s.phases.phase = .hold) :
    contactCleared s = report .loadLost s := by
  rcases h with h | h | h <;> simp only [contactCleared, h]

theorem contactCleared_of_lower {s : State} (h : s.phases.phase = .lower) :
    contactCleared s = changePhase .retract s := by
  simp only [contactCleared, h]

theorem contactCleared_of_other {s : State} (hseated : s.phases.phase ≠ .seated)
    (hlift : s.phases.phase ≠ .lift) (hhold : s.phases.phase ≠ .hold)
    (hlower : s.phases.phase ≠ .lower) : contactCleared s = s := by
  unfold contactCleared
  split
  case h_1 | h_2 | h_3 | h_4 => contradiction
  all_goals rfl

theorem enterSeated_causes (s : State) : (enterSeated s).phases.causes = s.phases.causes := by
  rw [enterSeated, evaluateSeating_causes, changePhase_causes]

/-- A column that loses its load in a loaded phase other than LOWER halts with LOAD_LOST alone (R62,
R64). -/
theorem contactCleared_halts {s : State} (hx : s.haltExact)
    (h : s.phases.phase = .seated ∨ s.phases.phase = .lift ∨ s.phases.phase = .hold) :
    (contactCleared s).phases.phase = .halted ∧ (contactCleared s).phases.causes = [.loadLost] ∧
      (contactCleared s).drive = driveAfter s.phases.phase .halted s.drive := by
  have hnil : s.phases.causes = [] :=
    causes_eq_nil_of_haltExact hx (by rcases h with h | h | h <;> simp [h])
  have hdrops : s.phases.phase.dropsReports = false := by rcases h with h | h | h <;> rw [h] <;> rfl
  have hnot : ¬(s.phases.phase = .init ∨ s.phases.phase = .unconfigured) := by
    simp [← Phase.dropsReports_iff, hdrops]
  obtain ⟨hinit, hunconfigured⟩ := not_or.1 hnot
  obtain ⟨hcauses, hphase, -⟩ := report_of_new (cause := .loadLost) hdrops (by simp [hnil])
  rw [contactCleared_of_loaded h]
  exact ⟨hphase, by rw [hcauses, hnil, List.nil_append], report_drive s _ hx hinit hunconfigured⟩

/-- LOWER goes on as RETRACT, the drive running (R60, R112). -/
theorem contactCleared_retracts {s : State} (h : s.phases.phase = .lower) :
    (contactCleared s).phases =
        { s.phases with phase := .retract, atTarget := false, atMark := false } ∧
      (contactCleared s).drive = s.drive ∧ (contactCleared s).follower.prevDemand = 0 := by
  have hne : s.phases.phase ≠ .retract := by simp [h]
  rw [contactCleared_of_lower h]
  refine ⟨changePhase_phases hne, ?_, by rw [changePhase_follower hne]; rfl⟩
  rw [changePhase_drive_of_ne s _ hne, h]
  rfl

theorem State.load_eq {s : State} {load : Nat} (hload : s.sensors.load = some load) :
    s.sensors.load.getD 0 = load := by
  rw [hload, Option.getD_some]

/-- Settles O32: the qualifiers by the lemma of each case, the two events by phase. -/
theorem contactEventsActByPhase : Obligations.ContactEventsActByPhase := by
  unfold Obligations.ContactEventsActByPhase
  refine ⟨fun s c load hload => ⟨?_, fun hclear => ?_, fun hset => ?_, fun hlight => ?_,
    fun q hq hheavy => ?_⟩, fun s hx => ⟨fun hp => ?_, contactSet_of_other,
    contactCleared_halts hx, contactCleared_retracts, contactCleared_of_other⟩⟩
  · rw [← State.load_eq hload]
    rfl
  · have hagainst := SensorBlock.speaksAgainst_of_clear hload hclear c
    refine ⟨fun hlt => ?_, fun hle hrun => ?_, fun hle hrun => ?_⟩
    · exact qualifyContact_of_agreeing (mt hagainst.1 (Nat.not_le.2 hlt))
    · exact qualifyContact_of_run (hagainst.2 hle) hrun
    · rw [qualifyContact_of_fourth (hagainst.2 hle) hrun, hclear]
      rfl
  · have hagainst := SensorBlock.speaksAgainst_of_set hload hset c
    refine ⟨fun hle => ?_, fun hlt hrun => ?_, fun hlt hrun => ?_⟩
    · exact qualifyContact_of_agreeing (mt hagainst.1 (Nat.not_lt.2 hle))
    · exact qualifyContact_of_run (hagainst.2 hlt) hrun
    · rw [qualifyContact_of_fourth (hagainst.2 hlt) hrun, hset]
      rfl
  · have hlight' : ¬c.tol.wCapacity.toNat ≤ s.sensors.load.getD 0 := by
      rw [hload]
      exact Nat.not_le.2 hlight
    rw [qualifyOverload_of_short (fun h => absurd h hlight'), SensorBlock.overloadCounted,
      if_neg hlight']
    rfl
  · have hheavy' : c.tol.wCapacity.toNat ≤ s.sensors.load.getD 0 := by rwa [hload]
    rw [← overloadQ_eq] at hq
    refine ⟨fun hlt => ?_, fun hle => ?_⟩
    · rw [qualifyOverload_of_short (fun _ => hq ▸ hlt), SensorBlock.overloadCounted,
        if_pos hheavy', Nat.min_eq_left (by omega)]
      rfl
    · rw [qualifyOverload_of_full hheavy' (hq ▸ hle), SensorBlock.overloadCounted, if_pos hheavy',
        Nat.min_eq_right (hq ▸ hle), hq]
      rfl
  · rw [contactSet_of_seek hp]
    exact ⟨enterSeated_phase s, enterSeated_causes s⟩

end Sys2Proof.Machine

namespace Sys2Proof.Machine

/-! ### What the work at a sample leaves

One walk over the takers serves both completions: each operation is shown to leave what no taker
touches, and only the follower to hand a demand. -/

/-- From `s` to `t` nothing is touched that no taker of a sample touches: guard latches and command
queue are touched in INIT alone (R144, R146), INIT is not entered, and a cause that is latched where
reports are heard stays (R120). -/
structure State.keptAtSample (s t : State) : Prop where
  peers : t.peers = s.peers
  scanTimer : t.scanTimer = s.scanTimer
  sensors : t.sensors = s.sensors
  store : t.store = s.store
  resetsApplied : t.resetsApplied = s.resetsApplied
  freeCount : t.freeCount = s.freeCount
  pending : t.pending = s.pending
  rxQueue : t.line.rxQueue = s.line.rxQueue
  errors : t.line.errors = s.line.errors
  epoch : t.phases.epoch = s.phases.epoch
  target : t.phases.target = s.phases.target
  mark : t.phases.mark = s.phases.mark
  levels : t.guards.levels = s.guards.levels
  started : s.phases.phase ≠ .init →
    t.phases.phase ≠ .init ∧ t.guards = s.guards ∧ t.line.queue = s.line.queue
  latched : s.phases.phase.dropsReports = false →
    t.phases.phase.dropsReports = false ∧ s.phases.causes ⊆ t.phases.causes

/-- Nor does it hand a demand (R110). -/
structure State.keptByMove (s t : State) : Prop extends atSample : s.keptAtSample t where
  demandTimer : t.drive.demandTimer = s.drive.demandTimer

theorem State.keptAtSample.refl (s : State) : s.keptAtSample s :=
  ⟨rfl, rfl, rfl, rfl, rfl, rfl, rfl, rfl, rfl, rfl, rfl, rfl, rfl, fun h => ⟨h, rfl, rfl⟩,
    fun h => ⟨h, List.Subset.refl _⟩⟩

theorem State.keptAtSample.trans {s t u : State} (hst : s.keptAtSample t)
    (htu : t.keptAtSample u) : s.keptAtSample u where
  peers := htu.peers.trans hst.peers
  scanTimer := htu.scanTimer.trans hst.scanTimer
  sensors := htu.sensors.trans hst.sensors
  store := htu.store.trans hst.store
  resetsApplied := htu.resetsApplied.trans hst.resetsApplied
  freeCount := htu.freeCount.trans hst.freeCount
  pending := htu.pending.trans hst.pending
  rxQueue := htu.rxQueue.trans hst.rxQueue
  errors := htu.errors.trans hst.errors
  epoch := htu.epoch.trans hst.epoch
  target := htu.target.trans hst.target
  mark := htu.mark.trans hst.mark
  levels := htu.levels.trans hst.levels
  started h := by
    obtain ⟨ht, hguards, hqueue⟩ := hst.started h
    obtain ⟨hu, hguards', hqueue'⟩ := htu.started ht
    exact ⟨hu, hguards'.trans hguards, hqueue'.trans hqueue⟩
  latched h := by
    obtain ⟨ht, hsub⟩ := hst.latched h
    obtain ⟨hu, hsub'⟩ := htu.latched ht
    exact ⟨hu, List.Subset.trans hsub hsub'⟩

theorem State.keptByMove.refl (s : State) : s.keptByMove s := ⟨.refl s, rfl⟩

theorem State.keptByMove.trans {s t u : State} (hst : s.keptByMove t) (htu : t.keptByMove u) :
    s.keptByMove u :=
  ⟨hst.atSample.trans htu.atSample, htu.demandTimer.trans hst.demandTimer⟩

theorem keptByMove_ite {p : Prop} [Decidable p] {s a b : State} (ha : p → s.keptByMove a)
    (hb : ¬p → s.keptByMove b) : s.keptByMove (if p then a else b) := by
  split
  next h => exact ha h
  next h => exact hb h

/-! The setters and the changes of phase. -/

theorem setFollower_keptByMove (s : State) (x : FollowerBlock) : s.keptByMove (s.setFollower x) :=
  { State.keptByMove.refl s with }

theorem setChecks_keptByMove (s : State) (x : CheckBlock) : s.keptByMove (s.setChecks x) :=
  { State.keptByMove.refl s with }

theorem updateBlink_keptByMove (s : State) : s.keptByMove (updateBlink s) := by
  unfold updateBlink
  exact keptByMove_ite
    (fun _ => keptByMove_ite (fun _ => { State.keptByMove.refl s with }) fun _ => .refl s)
    fun _ => keptByMove_ite (fun _ => { State.keptByMove.refl s with }) fun _ => .refl s

/-- A write of the phase block that leaves what a sample must keep of it. -/
theorem setPhases_keptByMove {s : State} {x : PhaseBlock} (hphase : x.phase = s.phases.phase)
    (hcauses : x.causes = s.phases.causes) (hepoch : x.epoch = s.phases.epoch)
    (htarget : x.target = s.phases.target) (hmark : x.mark = s.phases.mark) :
    s.keptByMove (s.setPhases x) :=
  { State.keptByMove.refl s with
    epoch := hepoch
    target := htarget
    mark := hmark
    started := fun h => ⟨by rwa [State.setPhases_phases, hphase], rfl, rfl⟩
    latched := fun h => by
      rw [State.setPhases_phases, hphase, hcauses]
      exact ⟨h, List.Subset.refl _⟩ }

/-- What a move of the phase leaves is kept, where it enters no starting phase and keeps the
causes. -/
theorem keptByMove_of_moved {s t : State} (hmoved : s.onlyPhaseMoved t) (hkept : s.kept t)
    (hdemand : t.drive.demandTimer = s.drive.demandTimer)
    (hstarted : s.phases.phase ≠ .init → t.phases.phase ≠ .init)
    (hlatched : s.phases.phase.dropsReports = false →
      t.phases.phase.dropsReports = false ∧ s.phases.causes ⊆ t.phases.causes) :
    s.keptByMove t := by
  obtain ⟨hpeers, hscan, hsensors, hguards, hstore, hresets, hfree, hpending, -, -, -, -, -, -, -,
    herrors, hqueue, hrx, -⟩ := hmoved
  obtain ⟨htarget, hmark, -, -, -, -, hepoch⟩ := hkept
  exact ⟨⟨hpeers, hscan, hsensors, hstore, hresets, hfree, hpending, hrx, herrors, hepoch, htarget,
    hmark, by rw [hguards], fun h => ⟨hstarted h, hguards, hqueue⟩, hlatched⟩, hdemand⟩

theorem driveAfter_demandTimer (old new : Phase) (d : DriveBlock) :
    (driveAfter old new d).demandTimer = d.demandTimer := by
  unfold driveAfter
  split
  · rfl
  · split
    · rfl
    · split <;> rfl

theorem changePhase_demandTimer (new : Phase) (s : State) :
    (changePhase new s).drive.demandTimer = s.drive.demandTimer := by
  rw [changePhase_drive]
  split
  · rfl
  · exact driveAfter_demandTimer _ _ _

/-- Every other phase hears reports (R120). -/
theorem Phase.dropsReports_eq_false {p : Phase} (hinit : p ≠ .init)
    (hunconfigured : p ≠ .unconfigured) : p.dropsReports = false := by
  rw [← Bool.not_eq_true, Phase.dropsReports_iff]
  exact not_or.2 ⟨hinit, hunconfigured⟩

theorem Phase.ne_init_of_hears {p : Phase} (h : p.dropsReports = false) : p ≠ .init := by
  rintro rfl
  exact absurd h (by decide)

/-- A change of phase out of INIT, or to a phase that hears reports. -/
theorem changePhase_keptByMove {s : State} {new : Phase}
    (h : s.phases.phase = .init ∨ new.dropsReports = false) :
    s.keptByMove (changePhase new s) := by
  have hnew (hs : s.phases.phase ≠ .init) : new.dropsReports = false := h.resolve_left hs
  refine keptByMove_of_moved (changePhase_onlyPhaseMoved s new) (changePhase_kept s new)
    (changePhase_demandTimer new s) (fun hs => ?_) (fun hs => ?_)
  · rw [changePhase_phase]
    exact Phase.ne_init_of_hears (hnew hs)
  · rw [changePhase_phase, changePhase_causes]
    exact ⟨hnew (Phase.ne_init_of_hears hs), List.Subset.refl _⟩

theorem report_demandTimer (cause : Cause) (s : State) :
    (report cause s).drive.demandTimer = s.drive.demandTimer := by
  unfold report
  split
  · rfl
  · rw [fillSlot_drive, changePhase_demandTimer, State.setPhases_drive]

theorem report_keptByMove (cause : Cause) (s : State) : s.keptByMove (report cause s) := by
  refine keptByMove_of_moved (report_onlyPhaseMoved s cause) (report_kept s cause)
    (report_demandTimer cause s) (fun hs => ?_) (fun hs => ⟨?_, ?_⟩)
  · rcases report_eq_self_or_halted cause s with heq | hhalted
    · rwa [heq]
    · simp [hhalted]
  · rcases report_eq_self_or_halted cause s with heq | hhalted
    · rwa [heq]
    · rw [hhalted]
      rfl
  · rw [report_causes, State.causesWith]
    split
    · exact List.Subset.refl _
    · exact List.subset_append_left _ _

/-! The entries into phases. -/

theorem evaluateSeating_keptByMove (s : State) : s.keptByMove (evaluateSeating s) := by
  unfold evaluateSeating
  refine keptByMove_ite (fun hp => ?_) fun _ => .refl s
  have hcounted :
      s.keptByMove (s.setPhases { s.phases with seatedCount := countSeated s.peers }) :=
    setPhases_keptByMove rfl rfl rfl rfl rfl
  exact hcounted.trans
    (keptByMove_ite (fun _ => changePhase_keptByMove (Or.inr rfl)) fun _ => .refl _)

theorem enterSeated_keptByMove (s : State) : s.keptByMove (enterSeated s) :=
  (changePhase_keptByMove (Or.inr rfl)).trans (evaluateSeating_keptByMove _)

theorem arrive_keptByMove (atMark : Bool) (s : State) : s.keptByMove (arrive atMark s) := by
  have hhold : s.keptByMove (changePhase .hold s) := changePhase_keptByMove (Or.inr rfl)
  unfold arrive
  split
  case h_1 | h_2 =>
    refine hhold.trans (.trans ?_ (updateBlink_keptByMove _))
    cases atMark <;> exact setPhases_keptByMove rfl rfl rfl rfl rfl
  case h_3 => exact changePhase_keptByMove (Or.inr rfl)
  all_goals exact .refl s

section
variable {s u : State} (hi : s.phases.phase = .init) (h : s.keptByMove u)
include hi h

/-- A part that was in INIT may have a guard latch set since (R144). -/
theorem setPending_keptFromInit (i : Fin 8) : s.keptByMove (setPending i u) :=
  { h with started := fun hne => absurd hi hne }

/-- It may have a command queued since (R146). -/
theorem requestEstop_keptFromInit : s.keptByMove (requestEstop u) := by
  unfold requestEstop requestCommand
  split
  · exact h
  · split
    · exact h
    · exact { h with started := fun hne => absurd hi hne }

theorem reportGuard_keptFromInit (i : Fin 8) : s.keptByMove (reportGuard i u) := by
  unfold reportGuard
  exact .trans (keptByMove_ite (fun _ => requestEstop_keptFromInit hi h) fun _ => h)
    (report_keptByMove _ _)

theorem bottomEdge_keptFromInit : s.keptByMove (bottomEdge u) := by
  unfold bottomEdge
  split
  case h_1 => exact h.trans (changePhase_keptByMove (Or.inr rfl))
  case h_2 =>
    exact keptByMove_ite
      (fun _ => (setPending_keptFromInit hi h 2).trans (report_keptByMove _ _)) fun _ => h
  all_goals exact h

theorem guardEdge_keptFromInit (i : Fin 8) : s.keptByMove (guardEdge i u) := by
  unfold guardEdge
  split
  · exact bottomEdge_keptFromInit hi h
  · split
    case h_1 => exact h
    case h_2 => exact setPending_keptFromInit hi h i
    all_goals exact reportGuard_keptFromInit hi (setPending_keptFromInit hi h i) i

theorem pseudoEdge_keptFromInit (i : Fin 8) : s.keptByMove (pseudoEdge u i) := by
  unfold pseudoEdge
  split
  · exact h
  · exact keptByMove_ite (fun _ => h) fun _ =>
      keptByMove_ite (fun _ => reportGuard_keptFromInit hi h i) fun _ =>
        keptByMove_ite (fun _ => guardEdge_keptFromInit hi h i) fun _ => h

theorem pseudoEdges_keptFromInit (lines : List (Fin 8)) :
    s.keptByMove (lines.foldl pseudoEdge u) := by
  induction lines generalizing u with
  | nil => exact h
  | cons i rest ih => exact ih (pseudoEdge_keptFromInit hi h i)

end

theorem enterListenFromInit_keptByMove {s : State} (hi : s.phases.phase = .init) :
    s.keptByMove (enterListenFromInit s) := by
  have hlisten : s.keptByMove (changePhase .listen s) := changePhase_keptByMove (Or.inl hi)
  have hedges := pseudoEdges_keptFromInit hi hlisten guardLines
  unfold enterListenFromInit
  refine hedges.trans (keptByMove_ite (fun _ => ?_) fun _ => .refl _)
  exact changePhase_keptByMove (Or.inr (by split <;> rfl))

end Sys2Proof.Machine

namespace Sys2Proof.Machine

/-! ### The takers of a position sample (R97) -/

theorem spreadCheck_keptByMove (s : State) : s.keptByMove (spreadCheck s) := by
  unfold spreadCheck
  split
  · exact .refl s
  · exact keptByMove_ite (fun _ => report_keptByMove _ s) fun _ => .refl s

theorem handDemand_keptAtSample (demand : Demand) (s : State) :
    s.keptAtSample (handDemand demand s) := { State.keptAtSample.refl s with }

/-- The follower's work is a demand handed behind a move of the phase at most (R22, R110). -/
theorem followSample_hands (s : State) :
    ∃ demand x, followSample s = handDemand demand x ∧ s.keptByMove x := by
  have hwork : s.keptByMove (afterArrivalTest (spreadCheck s)) :=
    (spreadCheck_keptByMove s).trans
      (keptByMove_ite (fun _ => arrive_keptByMove _ _) fun _ => .refl _)
  unfold followSample
  dsimp only
  split <;> exact ⟨_, _, rfl, hwork⟩

theorem followSample_keptAtSample (s : State) : s.keptAtSample (followSample s) := by
  obtain ⟨demand, x, heq, hx⟩ := followSample_hands s
  rw [heq]
  exact hx.atSample.trans (handDemand_keptAtSample demand x)

/-- It restarts the demand timer (R110). -/
theorem followSample_demandTimer (s : State) :
    (followSample s).drive.demandTimer = some 30 := by
  obtain ⟨demand, x, heq, -⟩ := followSample_hands s
  rw [heq]
  rfl

theorem stallCheck_keptByMove (h : Nat) (s : State) : s.keptByMove (stallCheck h s) := by
  have htaken : s.keptByMove
      (s.setFollower { s.follower with stallRef := some h, stallCounter := 0 }) :=
    setFollower_keptByMove s _
  unfold stallCheck
  exact keptByMove_ite (fun _ => .refl s) fun _ =>
    keptByMove_ite (fun _ => htaken.trans (report_keptByMove _ _)) fun _ =>
      keptByMove_ite (fun _ => setFollower_keptByMove s _) fun _ => htaken

theorem wrongDirectionCheck_keptByMove (h : Nat) (s : State) :
    s.keptByMove (wrongDirectionCheck h s) :=
  keptByMove_ite (fun _ => report_keptByMove _ s) fun _ => setChecks_keptByMove s _

theorem takeCheck_keptByMove {brake : BrakeOrder} {start s : State} {due : State → Bool}
    {cause : Cause} {check : State → State} (h : s.keptByMove (check s)) :
    s.keptByMove (takeCheck brake start due cause check s) :=
  keptByMove_ite (fun _ => keptByMove_ite (fun _ => report_keptByMove _ s) fun _ => .refl s)
    fun _ => h

theorem driftCheck_keptByMove (h : Nat) (s : State) : s.keptByMove (driftCheck h s) := by
  unfold driftCheck
  split
  · exact .refl s
  · exact keptByMove_ite (fun _ => report_keptByMove _ s) fun _ => .refl s

theorem checkMotion_keptByMove (valid : Bool) (order : SampleOrder) (start s : State) :
    s.keptByMove (checkMotion valid order start s) := by
  have hstall (h : Nat) (u : State) : u.keptByMove (takeStall order.brake start h u) :=
    takeCheck_keptByMove (stallCheck_keptByMove h u)
  have hwrong (h : Nat) (u : State) : u.keptByMove (takeWrongDirection order.brake start h u) :=
    takeCheck_keptByMove (wrongDirectionCheck_keptByMove h u)
  unfold checkMotion
  split
  · exact .trans
      (keptByMove_ite (fun _ => (hstall _ s).trans (hwrong _ _))
        fun _ => (hwrong _ s).trans (hstall _ _))
      (driftCheck_keptByMove _ _)
  · exact .refl s

theorem exitInit_keptByMove {s : State} (hi : s.phases.phase = .init) (atPosition : Bool) :
    s.keptByMove (exitInit atPosition s) :=
  keptByMove_ite
    (fun _ => keptByMove_ite (fun _ => changePhase_keptByMove (Or.inl hi)) fun _ => .refl s)
    fun _ => keptByMove_ite (fun _ => enterListenFromInit_keptByMove hi) fun _ => .refl s

/-- A progress item set leaves everything a sample must keep (R46). -/
theorem setProgress_keptByMove (s : State) (positionSeen loadSeen : Bool) :
    s.keptByMove
      (s.setPhases { s.phases with positionSeen := positionSeen, loadSeen := loadSeen }) :=
  setPhases_keptByMove rfl rfl rfl rfl rfl

theorem positionRules_keptByMove (valid : Bool) (s : State) :
    s.keptByMove (positionRules valid s) := by
  by_cases hi : s.phases.phase = .init
  · rw [positionRules_of_init hi]
    exact (setProgress_keptByMove s _ _).trans (exitInit_keptByMove (by exact hi) true)
  by_cases hk : s.phases.phase = .seek
  · rw [positionRules_of_seek hk]
    exact keptByMove_ite (fun _ => enterSeated_keptByMove s) fun _ =>
      keptByMove_ite (fun _ => report_keptByMove _ s) fun _ => .refl s
  · rw [positionRules_of_other hi hk]
    exact .refl s

theorem loadRules_keptByMove (s : State) : s.keptByMove (loadRules s) := by
  by_cases hi : s.phases.phase = .init
  · rw [loadRules_of_init hi]
    exact (setProgress_keptByMove s _ _).trans (exitInit_keptByMove (by exact hi) false)
  · rw [loadRules_of_other hi]
    exact .refl s

section
variable (valid : Bool) (order : SampleOrder) (start : State)

theorem takeSamples_keptAtSample (takers : List SampleTaker) (s : State) :
    s.keptAtSample (takers.foldl (takeSample valid order start) s) := by
  induction takers generalizing s with
  | nil => exact .refl s
  | cons taker rest ih =>
    refine State.keptAtSample.trans ?_ (ih _)
    cases taker with
    | follower => exact followSample_keptAtSample s
    | motionChecks => exact (checkMotion_keptByMove valid order start s).atSample
    | phaseRules => exact (positionRules_keptByMove valid s).atSample

/-- Takers of which one is the follower leave the demand timer restarted (R110). -/
theorem takeSamples_demandTimer {takers : List SampleTaker} {s : State}
    (h : .follower ∈ takers ∨ s.drive.demandTimer = some 30) :
    (takers.foldl (takeSample valid order start) s).drive.demandTimer = some 30 := by
  induction takers generalizing s with
  | nil => exact h.resolve_left List.not_mem_nil
  | cons taker rest ih =>
    refine ih ?_
    cases taker with
    | follower => exact Or.inr (followSample_demandTimer s)
    | motionChecks =>
      exact h.imp (by simp) (checkMotion_keptByMove valid order start s).demandTimer.trans
    | phaseRules =>
      exact h.imp (by simp) (positionRules_keptByMove valid s).demandTimer.trans

end

theorem reportInvalid_keptByMove (valid : Bool) (s : State) :
    s.keptByMove (reportInvalid valid s) :=
  keptByMove_ite (fun _ => report_keptByMove _ s) fun _ => .refl s

theorem handSample_keptAtSample (valid : Bool) (order : SampleOrder) (s : State) :
    s.keptAtSample (handSample valid order s) :=
  ((takeSamples_keptAtSample valid order s _ s).trans
    (reportInvalid_keptByMove valid _).atSample).trans
      (takeSamples_keptAtSample valid order s _ _)

theorem follower_mem_takersOf (takers : TakerOrder) : .follower ∈ takersOf takers := by
  cases takers <;> decide

/-- Before the report or behind it, the follower takes the sample (R97, R110). -/
theorem handSample_demandTimer (valid : Bool) (order : SampleOrder) (s : State) :
    (handSample valid order s).drive.demandTimer = some 30 := by
  have hmem := follower_mem_takersOf order.takers
  rw [← List.take_append_drop order.takersBeforeReport (takersOf order.takers),
    List.mem_append] at hmem
  refine takeSamples_demandTimer valid order s (hmem.symm.imp id fun hbefore => ?_)
  rw [(reportInvalid_keptByMove valid _).demandTimer]
  exact takeSamples_demandTimer valid order s (Or.inl hbefore)

/-- An invalid word that finds or brings the count to 3 latches SENSOR_INVALID where reports are
heard (R96, R120). -/
theorem reportInvalid_latches {s : State} (hcount : s.sensors.invalidCount = 3)
    (hhears : s.phases.phase.dropsReports = false) :
    (reportInvalid false s).phases.phase.dropsReports = false ∧
      .sensorInvalid ∈ (reportInvalid false s).phases.causes := by
  obtain ⟨hhears', -⟩ := (reportInvalid_keptByMove false s).latched hhears
  refine ⟨hhears', ?_⟩
  rw [reportInvalid, hcount]
  exact (report_causes _ _) ▸ mem_causesWith hhears

/-- Whatever takes the sample before the report or behind it, the cause is latched (R96, R97). -/
theorem handSample_latchesInvalid {s : State} (hcount : s.sensors.invalidCount = 3)
    (hhears : s.phases.phase.dropsReports = false) (order : SampleOrder) :
    .sensorInvalid ∈ (handSample false order s).phases.causes := by
  have hbefore := takeSamples_keptAtSample false order s
    ((takersOf order.takers).take order.takersBeforeReport) s
  obtain ⟨hhears', -⟩ := hbefore.latched hhears
  obtain ⟨hhears'', hlatched⟩ := reportInvalid_latches (by rw [hbefore.sensors, hcount]) hhears'
  obtain ⟨-, hkept⟩ := (takeSamples_keptAtSample false order s
    ((takersOf order.takers).drop order.takersBeforeReport) _).latched hhears''
  exact hkept hlatched

end Sys2Proof.Machine

namespace Sys2Proof.Machine

/-! ### A position completion (R92 to R97) -/

theorem scaleHeight_eq (c : ConfigValues) (word : BitVec 18) :
    scaleHeight c (positionCount word) =
      min 24000
        (((((word.extractLsb' 2 16).toNat : Int) - (c.fields.posZero.toNat : Int)) *
          100).tdiv (c.fields.posScale.toNat : Int)).toNat :=
  Nat.min_comm _ _

/-- Own height after a position word: with a valid word and a configuration the scaled count, else
the one held (R95, R96, R103). -/
def State.heightAfter (s : State) (valid : Bool) (word : BitVec 18) : Option Nat :=
  match valid, s.store.active with
  | true, some c =>
    some
      (min 24000
        (((((word.extractLsb' 2 16).toNat : Int) - (c.fields.posZero.toNat : Int)) *
          100).tdiv (c.fields.posScale.toNat : Int)).toNat)
  | _, _ => s.sensors.height

/-- The part as the takers of a completed position word find it: the port IDLE, the word stored or
held (R90, R93, R95, R96). -/
def State.positionStored (s : State) (valid : Bool) (word : BitVec 18) : State :=
  { s with
    sensors :=
      { s.sensors with
        port := .idle
        overrunCount := 0
        invalidCount := if valid then 0 else min (s.sensors.invalidCount + 1) 3
        height := s.heightAfter valid word } }

theorem storePosition_eq (s : State) (word : BitVec 18) :
    storePosition word (s.setSensors { s.sensors with port := .idle, overrunCount := 0 }) =
      s.positionStored (positionValid word) word := by
  unfold storePosition State.positionStored State.heightAfter
  cases positionValid word with
  | false => rfl
  | true =>
    cases hc : s.store.active with
    | none => simp [hc, State.setSensors]
    | some c => simp [hc, State.setSensors, scaleHeight_eq]

/-- A completed word is stored and handed on, and the next request served (R93, R97). -/
theorem completePosition_eq {s : State} (hport : s.sensors.port = .position) (word : BitVec 18)
    (order : SampleOrder) {t : State}
    (ht : t = handSample (positionValid word) order (s.positionStored (positionValid word) word)) :
    completePosition word order s = { t with sensors := t.sensors.served } := by
  have hidle : t.sensors.port = .idle := by
    rw [ht, (handSample_keptAtSample _ order _).sensors]
    rfl
  rw [← startTransfer_idle hidle, ht, ← storePosition_eq]
  exact if_pos hport

/-- Settles O22: the word is stored, and what takes it leaves the Sensor Port. -/
theorem positionCompletionScales : Obligations.PositionCompletionScales := by
  unfold Obligations.PositionCompletionScales
  intro s word order valid hfree hport hvalid
  obtain rfl : valid = positionValid word := hvalid
  have ht := completePosition_eq hport word order rfl
  have hkept :=
    handSample_keptAtSample (positionValid word) order (s.positionStored (positionValid word) word)
  have hdemand :=
    handSample_demandTimer (positionValid word) order (s.positionStored (positionValid word) word)
  refine ⟨_, (running_of_free hfree).trans (congrArg _ ht), ?_, hdemand,
    fun hbad hcount hinit hunconfigured => ?_, hkept.peers, hkept.scanTimer, hkept.store,
    hkept.rxQueue, hkept.errors, hkept.epoch, hkept.target, hkept.mark, hkept.levels,
    fun hinit => (hkept.started hinit).2, (State.held_congr hkept.resetsApplied).trans hfree,
    hkept.pending, hkept.freeCount⟩
  · rw [hkept.sensors]
    rfl
  · have hfull : (s.positionStored false word).sensors.invalidCount = 3 :=
      Nat.min_eq_right (Nat.succ_le_succ hcount)
    rw [hbad]
    exact handSample_latchesInvalid hfull (Phase.dropsReports_eq_false hinit hunconfigured) order

end Sys2Proof.Machine

namespace Sys2Proof.Machine

/-! ### The takers of a load sample (R99) -/

/-- A move of the phase is one whatever the Sensor Port holds. -/
theorem State.keptByMove.setSensors {s t : State} (h : s.keptByMove t) (x : SensorBlock) :
    (s.setSensors x).keptByMove (t.setSensors x) := { h with sensors := rfl }

/-- Work that writes the Sensor Port and then moves the phase, behind a move of the phase. -/
theorem State.keptByMove.thenSensors {s t u : State} {f : SensorBlock → SensorBlock}
    (h : s.keptByMove t) (hu : (t.setSensors (f t.sensors)).keptByMove u) :
    (s.setSensors (f s.sensors)).keptByMove u := by
  rw [h.sensors] at hu
  exact (h.setSensors _).trans hu

theorem contactSet_keptByMove (s : State) : s.keptByMove (contactSet s) := by
  unfold contactSet
  split
  case h_1 => exact enterSeated_keptByMove s
  all_goals exact .refl s

theorem contactCleared_keptByMove (s : State) : s.keptByMove (contactCleared s) := by
  unfold contactCleared
  split
  case h_1 | h_2 | h_3 => exact report_keptByMove _ s
  case h_4 => exact changePhase_keptByMove (Or.inr rfl)
  all_goals exact .refl s

theorem contactEvent_keptByMove (contact : Bool) (s : State) :
    s.keptByMove (contactEvent contact s) :=
  keptByMove_ite (fun _ => contactSet_keptByMove s) fun _ => contactCleared_keptByMove s

/-- CONTACT and its run after a load sample (R100, R101). -/
def SensorBlock.contactAfter (p : SensorBlock) (c : ConfigValues) (first : Bool) : Bool × Nat :=
  if first then (decide (c.tol.wContact.toNat ≤ p.load.getD 0), p.contactRun)
  else if p.speaksAgainst c then
    if p.contactRun < 3 then (p.contact, p.contactRun + 1) else (!p.contact, 0)
  else (p.contact, 0)

/-- A sample that finds CONTACT clear sets it as the fourth running at or above W_CONTACT (R101). -/
theorem SensorBlock.contactAfter_of_clear {p : SensorBlock} {load : Nat}
    (hload : p.load = some load) (hclear : p.contact = false) (c : ConfigValues) :
    (load < c.tol.wContact.toNat →
      (p.contactAfter c false).1 = false ∧ (p.contactAfter c false).2 = 0) ∧
    (c.tol.wContact.toNat ≤ load → p.contactRun < 3 →
      (p.contactAfter c false).1 = false ∧ (p.contactAfter c false).2 = p.contactRun + 1) ∧
    (c.tol.wContact.toNat ≤ load → 3 ≤ p.contactRun →
      (p.contactAfter c false).1 = true ∧ (p.contactAfter c false).2 = 0) := by
  have hagainst := p.speaksAgainst_of_clear hload hclear c
  refine ⟨fun hlt => ?_, fun hle hrun => ?_, fun hle hrun => ?_⟩
  · simp [contactAfter, hagainst, hclear, Nat.not_le.2 hlt]
  · simp [contactAfter, hagainst, hclear, hle, hrun]
  · simp [contactAfter, hagainst, hclear, hle, Nat.not_lt.2 hrun]

/-- One that finds it set clears it as the fourth running below the release threshold (R101). -/
theorem SensorBlock.contactAfter_of_set {p : SensorBlock} {load : Nat}
    (hload : p.load = some load) (hset : p.contact = true) (c : ConfigValues) :
    (c.tol.wContact.toNat - c.tol.wContact.toNat / 8 ≤ load →
      (p.contactAfter c false).1 = true ∧ (p.contactAfter c false).2 = 0) ∧
    (load < c.tol.wContact.toNat - c.tol.wContact.toNat / 8 → p.contactRun < 3 →
      (p.contactAfter c false).1 = true ∧ (p.contactAfter c false).2 = p.contactRun + 1) ∧
    (load < c.tol.wContact.toNat - c.tol.wContact.toNat / 8 → 3 ≤ p.contactRun →
      (p.contactAfter c false).1 = false ∧ (p.contactAfter c false).2 = 0) := by
  have hagainst := p.speaksAgainst_of_set hload hset c
  refine ⟨fun hle => ?_, fun hlt hrun => ?_, fun hlt hrun => ?_⟩
  · simp only [contactAfter, hagainst, hset, Nat.not_lt.2 hle, if_false, Bool.false_eq_true,
      and_self]
  · simp only [contactAfter, hagainst, hset, hlt, hrun, if_true, if_false, Bool.false_eq_true,
      and_self]
  · simp only [contactAfter, hagainst, hset, hlt, Nat.not_lt.2 hrun, if_true, if_false,
      Bool.false_eq_true, Bool.not_true, and_self]

/-- The Sensor Port as the contact qualifier leaves it. -/
def SensorBlock.contactQualified (p : SensorBlock) (c : ConfigValues) (first : Bool) :
    SensorBlock :=
  { p with contact := (p.contactAfter c first).1, contactRun := (p.contactAfter c first).2 }

theorem qualifyContact_keptByMove (c : ConfigValues) (first : Bool) (s : State) :
    (s.setSensors (s.sensors.contactQualified c first)).keptByMove (qualifyContact c first s) := by
  unfold SensorBlock.contactQualified SensorBlock.contactAfter
  cases first with
  | true => exact .refl _
  | false =>
    rw [qualifyContact_later]
    simp only [Bool.false_eq_true, if_false]
    split
    · split
      · exact .refl _
      · exact contactEvent_keptByMove _ _
    · exact .refl _

theorem qualifyOverload_keptByMove (c : ConfigValues) (s : State) :
    (s.setSensors (s.sensors.overloadCounted c)).keptByMove (qualifyOverload c s) := by
  by_cases h : c.tol.wCapacity.toNat ≤ s.sensors.load.getD 0 ∧
      c.overloadQ ≤ s.sensors.overloadRun + 1
  · obtain ⟨hload, hrun⟩ := h
    rw [qualifyOverload_of_full hload hrun]
    exact report_keptByMove _ _
  · rw [qualifyOverload_of_short fun hload => Nat.not_le.1 fun hrun => h ⟨hload, hrun⟩]
    exact .refl _

/-- The two qualifiers write items of their own, so their order shows nothing in the Sensor Port
(R99). -/
theorem takeLoad_keptByMove (c : ConfigValues) (first : Bool) (order : LoadOrder) (s : State) :
    (s.setSensors ((s.sensors.contactQualified c first).overloadCounted c)).keptByMove
      (takeLoad c first order s) := by
  have hcontact (u : State) := qualifyContact_keptByMove c first u
  have hoverload (u : State) := qualifyOverload_keptByMove c u
  cases order with
  | contactOverloadStart =>
    exact ((hcontact s).thenSensors (f := (·.overloadCounted c)) (hoverload _)).trans
      (loadRules_keptByMove _)
  | overloadContactStart =>
    exact ((hoverload s).thenSensors (f := (·.contactQualified c first)) (hcontact _)).trans
      (loadRules_keptByMove _)
  | contactStartOverload =>
    exact ((hcontact s).trans (loadRules_keptByMove _)).thenSensors (f := (·.overloadCounted c))
      (hoverload _)

/-- A load at W_CAPACITY or above fills the overload run, in a phase that hears reports (R102,
R120). -/
structure State.overloadDue (s : State) (c : ConfigValues) : Prop where
  load : c.tol.wCapacity.toNat ≤ s.sensors.load.getD 0
  run : c.overloadQ ≤ s.sensors.overloadRun + 1
  hears : s.phases.phase.dropsReports = false

theorem qualifyContact_overloadDue {s : State} {c : ConfigValues} (h : s.overloadDue c)
    (first : Bool) : (qualifyContact c first s).overloadDue c := by
  have hkept := qualifyContact_keptByMove c first s
  obtain ⟨hhears, -⟩ := hkept.latched h.hears
  exact ⟨hkept.sensors ▸ h.load, hkept.sensors ▸ h.run, hhears⟩

theorem loadRules_overloadDue {s : State} {c : ConfigValues} (h : s.overloadDue c) :
    (loadRules s).overloadDue c := by
  have hkept := loadRules_keptByMove s
  obtain ⟨hhears, -⟩ := hkept.latched h.hears
  exact ⟨hkept.sensors ▸ h.load, hkept.sensors ▸ h.run, hhears⟩

theorem qualifyOverload_latches {s : State} {c : ConfigValues} (h : s.overloadDue c) :
    (qualifyOverload c s).phases.phase.dropsReports = false ∧
      .overload ∈ (qualifyOverload c s).phases.causes := by
  obtain ⟨hhears, -⟩ := (qualifyOverload_keptByMove c s).latched h.hears
  refine ⟨hhears, ?_⟩
  rw [qualifyOverload_of_full h.load h.run, report_causes]
  exact mem_causesWith h.hears

/-- Whatever takes the sample before the overload qualifier or behind it, OVERLOAD is latched. -/
theorem takeLoad_latchesOverload {s : State} {c : ConfigValues} (h : s.overloadDue c)
    (first : Bool) (order : LoadOrder) :
    .overload ∈ (takeLoad c first order s).phases.causes := by
  cases order with
  | contactOverloadStart =>
    obtain ⟨hhears, hlatched⟩ := qualifyOverload_latches (qualifyContact_overloadDue h first)
    obtain ⟨-, hkept⟩ := (loadRules_keptByMove _).latched hhears
    exact hkept hlatched
  | overloadContactStart =>
    obtain ⟨hhears, hlatched⟩ := qualifyOverload_latches h
    obtain ⟨-, hkept⟩ :=
      ((qualifyContact_keptByMove c first _).trans (loadRules_keptByMove _)).latched hhears
    exact hkept hlatched
  | contactStartOverload =>
    obtain ⟨-, hlatched⟩ :=
      qualifyOverload_latches (loadRules_overloadDue (qualifyContact_overloadDue h first))
    exact hlatched

/-! ### A load completion (R92, R93, R98 to R103) -/

theorem storedLoad_eq (c : ConfigValues) (word : BitVec 12) :
    storedLoad c word =
      if word = 4095#12 then
        max
          (min 4000
            (((((word.toNat : Int) - (c.fields.loadZero.toNat : Int)) *
              (c.fields.loadSpan.toNat : Int)).tdiv 1024).toNat))
          c.tol.wCapacity.toNat
      else
        min 4000
          (((((word.toNat : Int) - (c.fields.loadZero.toNat : Int)) *
            (c.fields.loadSpan.toNat : Int)).tdiv 1024).toNat) := by
  simp only [storedLoad, loadSaturated, beq_iff_eq, scaleLoad, clampTo, Nat.min_comm]

/-- The part with the sensor port IDLE again (R93). -/
def State.portReleased (s : State) : State := s.setSensors { s.sensors with port := .idle }

/-- The part with a completed load word handed to its takers (R93, R98, R99, R103). -/
def State.loadHanded (s : State) (word : BitVec 12) (order : LoadOrder) : State :=
  match s.store.active with
  | none => loadRules s.portReleased
  | some c => takeLoad c s.sensors.load.isNone order (storeLoad c word s.portReleased)

/-- The Sensor Port as the takers of the word leave it. -/
def State.loadTaken (s : State) (word : BitVec 12) : SensorBlock :=
  match s.store.active with
  | none => s.portReleased.sensors
  | some c =>
    ((storeLoad c word s.portReleased).sensors.contactQualified c
      s.sensors.load.isNone).overloadCounted c

theorem loadHanded_keptByMove (s : State) (word : BitVec 12) (order : LoadOrder) :
    (s.setSensors (s.loadTaken word)).keptByMove (s.loadHanded word order) := by
  unfold State.loadTaken State.loadHanded
  split
  · exact loadRules_keptByMove s.portReleased
  next c _ => exact takeLoad_keptByMove c _ order (storeLoad c word s.portReleased)

/-- Of the Sensor Port's other items only the port is written (R93). -/
theorem loadTaken_eq (s : State) (word : BitVec 12) :
    s.loadTaken word =
      { s.sensors with
        port := .idle
        load := (s.loadTaken word).load
        lastSaturated := (s.loadTaken word).lastSaturated
        contact := (s.loadTaken word).contact
        contactRun := (s.loadTaken word).contactRun
        overloadRun := (s.loadTaken word).overloadRun } := by
  unfold State.loadTaken
  split <;> rfl

/-- A completed word is handed on, and the next request served (R93). -/
theorem completeLoad_eq {s : State} (hport : s.sensors.port = .load) (word : BitVec 12)
    (order : LoadOrder) {t : State} (ht : t = s.loadHanded word order) :
    completeLoad word order s = { t with sensors := t.sensors.served } := by
  have hidle : t.sensors.port = .idle := by
    rw [ht, (loadHanded_keptByMove s word order).sensors, State.setSensors_sensors, loadTaken_eq]
  rw [← startTransfer_idle hidle, ht]
  unfold completeLoad State.loadHanded
  rw [if_pos hport]
  rfl

end Sys2Proof.Machine

namespace Sys2Proof.Machine

/-- A stored load that fills the overload run latches OVERLOAD where reports are heard (R102,
R120). -/
theorem loadHanded_latchesOverload {s : State} {c : ConfigValues} (hc : s.store.active = some c)
    {word : BitVec 12} (hload : c.tol.wCapacity.toNat ≤ storedLoad c word)
    (hrun : c.overloadQ ≤ s.sensors.overloadRun + 1)
    (hhears : s.phases.phase.dropsReports = false) (order : LoadOrder) :
    .overload ∈ (s.loadHanded word order).phases.causes := by
  have hdue : (storeLoad c word s.portReleased).overloadDue c := ⟨hload, hrun, hhears⟩
  simp only [State.loadHanded, hc]
  exact takeLoad_latchesOverload hdue _ order

/-- Settles O31: the Sensor Port as the takers leave it, and what no taker touches. -/
theorem loadCompletionQualifies : Obligations.LoadCompletionQualifies := by
  unfold Obligations.LoadCompletionQualifies
  intro s word order hfree hport
  have hkept := loadHanded_keptByMove s word order
  have hsensors : (s.loadHanded word order).sensors = s.loadTaken word := hkept.sensors
  refine ⟨_, (running_of_free hfree).trans (congrArg _ (completeLoad_eq hport word order rfl)), rfl,
    ?_, ?_, ?_, ?_, ?_, hkept.peers, hkept.store, hkept.rxQueue, ?_, hkept.scanTimer,
    hkept.errors, hkept.epoch, hkept.target, hkept.mark, hkept.demandTimer, hkept.levels,
    fun hinit => (hkept.started hinit).2, (State.held_congr hkept.resetsApplied).trans hfree,
    hkept.pending, hkept.freeCount, fun hnone => ?_, fun c w run hc hw hrun => ?_⟩
  iterate 6
    rw [hsensors, loadTaken_eq]
    rfl
  · rw [hsensors]
    simp only [State.loadTaken, hnone]
    exact ⟨rfl, rfl, rfl, rfl⟩
  · obtain rfl : w = storedLoad c word := hw.trans (storedLoad_eq c word).symm
    obtain rfl : run = c.overloadQ := hrun.trans (overloadQ_eq c).symm
    rw [hsensors]
    simp only [State.loadTaken, hc]
    have hlater (h : s.sensors.load ≠ none) : s.sensors.load.isNone = false :=
      Option.isNone_eq_false_iff.2 (Option.isSome_iff_ne_none.2 h)
    refine ⟨rfl, rfl, fun hfirst => ?_, fun hsome hclear => ?_, fun hsome hset => ?_,
      fun hlight => if_neg (Nat.not_le.2 hlight), fun hheavy =>
        ⟨if_pos hheavy, fun hfull hinit hunconfigured => ?_⟩⟩
    · rw [hfirst]
      exact ⟨rfl, rfl⟩
    · rw [hlater hsome]
      exact SensorBlock.contactAfter_of_clear (p := (storeLoad c word s.portReleased).sensors)
        rfl hclear c
    · rw [hlater hsome]
      exact SensorBlock.contactAfter_of_set (p := (storeLoad c word s.portReleased).sensors)
        rfl hset c
    · exact loadHanded_latchesOverload hc hheavy hfull
        (Phase.dropsReports_eq_false hinit hunconfigured) order

/-! ### The takers in their order (R96, R97, R99) -/

/-- The SENSOR_INVALID report, told by the count the sample found (R96). -/
theorem reportInvalid_eq {valid : Bool} {count : Nat} {s : State}
    (h : s.sensors.invalidCount = if valid then 0 else min (count + 1) 3) :
    reportInvalid valid s =
      if valid = false ∧ 2 ≤ count then report .sensorInvalid s else s := by
  cases valid with
  | true => simp [reportInvalid]
  | false =>
    have hlimit : min (count + 1) 3 = badSampleLimit ↔ 2 ≤ count := by
      simp only [badSampleLimit]
      omega
    simp only [reportInvalid, h, Bool.false_eq_true, if_false, Bool.not_false, Bool.true_and,
      beq_iff_eq, hlimit, true_and]

/-- No taker writes what the report reads, so the report may be told by the sample alone (log
31). -/
theorem handSample_eq {valid : Bool} {s : State} {reportBad : State → State}
    (h : ∀ u : State, u.sensors = s.sensors → reportInvalid valid u = reportBad u)
    (order : SampleOrder) :
    handSample valid order s =
      ((takersOf order.takers).drop order.takersBeforeReport).foldl (takeSample valid order s)
        (reportBad
          (((takersOf order.takers).take order.takersBeforeReport).foldl
            (takeSample valid order s) s)) := by
  rw [← h _ (takeSamples_keptAtSample valid order s _ s).sensors]
  rfl

/-- Settles O23: with the report told by the sample, each order of the takers and each place of the
report among them is the work written out. -/
theorem sampleTakersInOrder : Obligations.SampleTakersInOrder := by
  unfold Obligations.SampleTakersInOrder
  refine ⟨?_, ?_⟩
  · rintro s word ⟨takers, before, stallFirst, brake⟩ valid hfree hport hvalid
    intro stored follow check rule reportBad inOrder x
    obtain rfl : valid = positionValid word := hvalid
    have hreport (u : State) (hu : u.sensors = stored.sensors) :
        reportInvalid (positionValid word) u = reportBad u :=
      reportInvalid_eq (by rw [hu])
    refine (running_of_free hfree).trans (congrArg _ (completePosition_eq hport word _ ?_))
    refine Eq.trans ?_ (handSample_eq hreport _).symm
    cases takers <;> fin_cases before <;> rfl
  · intro s word order hfree hport u
    refine ⟨fun hnone => ?_, fun c load hc hload => ?_⟩
    · refine (running_of_free hfree).trans (congrArg _ (completeLoad_eq hport word order ?_))
      simp only [State.loadHanded, hnone]
      rfl
    · intro stored contact overload x
      refine (running_of_free hfree).trans (congrArg _ (completeLoad_eq hport word order ?_))
      obtain rfl : load = storedLoad c word := hload.trans (storedLoad_eq c word).symm
      simp only [State.loadHanded, hc]
      cases order <;> rfl

end Sys2Proof.Machine

/-! ## Drive output: proofs of the family's statements -/

namespace Sys2Proof.Machine

/-! ### A drive safe in a phase (R107, R110)

`State.driveSafe` reads the drive and the phase alone. Both are written together at a change of
phase, and the drive alone at a demand, at its three timers and at a reset; every other operation
leaves the two as they are, and keeps the invariant by unfolding alone. -/

/-- `State.driveSafe`, as a condition on a drive and the phase it stands in. -/
def DriveBlock.safeIn (d : DriveBlock) (p : Phase) : Prop :=
  (d.runEnable = true ↔ d.state ≠ .stopped) ∧
  (d.brakeReleased = true ↔ d.state ≠ .stopped) ∧
  (d.state ≠ .stopped → p.isMotion = true) ∧
  (d.state ≠ .running → d.duty = 0) ∧
  d.duty ≤ maxDuty ∧
  (d.dwellTimer.isSome = true ↔ d.state = .dwell) ∧
  (d.settleTimer.isSome = true → d.state = .stopped)

theorem driveSafe_iff (s : State) : s.driveSafe ↔ s.drive.safeIn s.phases.phase := Iff.rfl

theorem driveSafe_ite {p : Prop} [Decidable p] {a b : State} (ha : a.driveSafe)
    (hb : b.driveSafe) : (if p then a else b).driveSafe := by
  split <;> assumption

/-- What writes neither the drive nor the phase keeps the drive safe. -/
theorem driveSafe_of_frame {s t : State} (h : s.driveSafe) (hdrive : t.drive = s.drive)
    (hphases : t.phases = s.phases) : t.driveSafe := by
  rwa [driveSafe_iff, hdrive, hphases]

theorem driveSafe_foldl {α : Type} {f : State → α → State}
    (hf : ∀ (s : State) (a : α), s.driveSafe → (f s a).driveSafe) (l : List α) {s : State}
    (h : s.driveSafe) : (l.foldl f s).driveSafe :=
  List.foldlRecOn (motive := State.driveSafe) l f h fun s hs a _ => hf s a hs

/-- A drive outside STOPPED stands in a motion phase. -/
theorem DriveBlock.safeIn.stopped {d : DriveBlock} {p : Phase} (h : d.safeIn p)
    (hp : p.isMotion = false) : d.state = .stopped := by
  obtain ⟨-, -, hmoving, -⟩ := h
  by_contra hstate
  exact absurd (hmoving hstate) (by simp [hp])

/-- A safe drive stays safe in another phase that lets it move where it moves. -/
theorem DriveBlock.safeIn.inPhase {d : DriveBlock} {old new : Phase} (h : d.safeIn old)
    (hnew : d.state ≠ .stopped → new.isMotion = true) : d.safeIn new := by
  obtain ⟨hrun, hbrake, -, hrest⟩ := h
  exact ⟨hrun, hbrake, hnew, hrest⟩

/-- The drive just started dwells with duty 0 and the brake released (R108). -/
theorem started_safeIn (d : DriveBlock) (direction : Direction) {p : Phase}
    (hp : p.isMotion = true) :
    DriveBlock.safeIn
      { d with
        direction := direction, duty := 0, runEnable := true, brakeReleased := true
        state := .dwell, dwellTimer := some 150, settleTimer := none } p := by
  simp [DriveBlock.safeIn, hp]

/-- The drive just stopped holds its lines at rest, in any phase (R111). -/
theorem stopped_safeIn (d : DriveBlock) (p : Phase) :
    DriveBlock.safeIn
      { d with
        duty := 0, runEnable := false, brakeReleased := false, state := .stopped
        dwellTimer := none, settleTimer := some 100 } p := by
  simp [DriveBlock.safeIn]

/-- A settle timer may be started in STOPPED (R114). -/
theorem DriveBlock.safeIn.settling {d : DriveBlock} {p : Phase} (h : d.safeIn p)
    (hstate : d.state = .stopped) (timer : Timer) :
    DriveBlock.safeIn { d with settleTimer := timer } p := by
  obtain ⟨hrun, hbrake, hmoving, hidle, hduty, hdwell, -⟩ := h
  exact ⟨hrun, hbrake, hmoving, hidle, hduty, hdwell, fun _ => hstate⟩

/-- The four cases of a change of phase: started, stopped, settling in LISTEN, or left alone (R108,
R111, R112, R114). -/
theorem driveAfter_safeIn {d : DriveBlock} {old : Phase} (new : Phase) (h : d.safeIn old) :
    (driveAfter old new d).safeIn new := by
  unfold driveAfter
  split
  next hstart =>
    obtain ⟨-, hnew⟩ := hstart
    exact started_safeIn d _ hnew
  next =>
    split
    next => exact stopped_safeIn d new
    next hstop =>
      have hstays : d.safeIn new := h.inPhase fun hstate => by
        have hold : old.isMotion = true := by
          by_contra hold
          exact hstate (h.stopped (by simpa using hold))
        by_contra hnew
        exact hstop ⟨hold, by simpa using hnew, hstate⟩
      split
      next hlisten =>
        obtain ⟨rfl, -⟩ := hlisten
        exact hstays.settling (h.stopped rfl) _
      next => exact hstays

theorem changePhase_driveSafe (new : Phase) {s : State} (h : s.driveSafe) :
    (changePhase new s).driveSafe := by
  by_cases hp : s.phases.phase = new
  · rwa [← hp, changePhase_same]
  · rw [driveSafe_iff, changePhase_phase, changePhase_drive_of_ne s new hp]
    exact driveAfter_safeIn new h

/-! ### What writes the drive alone -/

theorem stopDrive_driveSafe {s : State} (h : s.driveSafe) : (stopDrive s).driveSafe := by
  by_cases hstate : s.drive.state = .stopped
  · rwa [stopDrive_of_stopped hstate]
  · rw [driveSafe_iff, stopDrive_phases, stopDrive_lines hstate]
    exact stopped_safeIn s.drive s.phases.phase

/-- The duty of a demand is clamped, and reaches the line in RUNNING alone (R39, R110). -/
theorem handDemand_driveSafe {demand : Demand} (hduty : demand.duty ≤ maxDuty) {s : State}
    (h : s.driveSafe) : (handDemand demand s).driveSafe := by
  obtain ⟨hrun, hbrake, hmoving, -, -, htimers⟩ := h
  obtain ⟨hidle, hmax⟩ : (s.drive.state ≠ .running → dutyAfterDemand s.drive demand = 0) ∧
      dutyAfterDemand s.drive demand ≤ maxDuty := by
    unfold dutyAfterDemand
    split
    next hrunning =>
      rw [Bool.and_eq_true, decide_eq_true_eq] at hrunning
      obtain ⟨hstate, -⟩ := hrunning
      exact ⟨fun hother => absurd hstate hother, hduty⟩
    next => exact ⟨fun _ => rfl, Nat.zero_le _⟩
  exact ⟨hrun, hbrake, hmoving, hidle, hmax, htimers⟩

theorem demandFor_duty_le (c : ConfigValues) (arrived : Bool) (before now : State) :
    (demandFor c arrived before now).duty ≤ maxDuty := by
  unfold demandFor
  split
  · exact Nat.min_le_right _ _
  · exact Nat.zero_le _

/-- The end of the dwell leads to RUNNING with duty 0 (R109). -/
theorem DriveBlock.safeIn.dwellOver {d : DriveBlock} {p : Phase} (h : d.safeIn p)
    (hstate : d.state = .dwell) :
    DriveBlock.safeIn { d with state := .running, duty := 0, dwellTimer := none } p := by
  obtain ⟨hrun, hbrake, hmoving, -, -, -, hsettle⟩ := h
  simp_all [DriveBlock.safeIn]

theorem dwellExpiry_driveSafe {s : State} (h : s.driveSafe) : (dwellExpiry s).driveSafe := by
  unfold dwellExpiry
  split
  next => exact h
  next htimer =>
    have hstate : s.drive.state = .dwell := by
      obtain ⟨-, -, -, -, -, hdwell, -⟩ := h
      exact hdwell.1 (by simpa [Option.isSome_iff_ne_none] using htimer)
    rw [if_pos hstate]
    exact DriveBlock.safeIn.dwellOver h hstate

theorem settleExpiry_driveSafe {s : State} (h : s.driveSafe) : (settleExpiry s).driveSafe := by
  have hidle : (s.setDrive { s.drive with settleTimer := none }).driveSafe := by
    obtain ⟨hrun, hbrake, hmoving, hduty, hmax, hdwell, -⟩ := h
    exact ⟨hrun, hbrake, hmoving, hduty, hmax, hdwell, Bool.noConfusion⟩
  exact driveSafe_ite h (driveSafe_ite hidle hidle)

/-- Timers run as before while time passes. -/
theorem passMillisecond_driveSafe {s : State} (h : s.driveSafe) :
    (passMillisecond s).driveSafe := by
  obtain ⟨hrun, hbrake, hmoving, hidle, hduty, hdwell, hsettle⟩ := h
  have hcount (t : Timer) : (countDown t).isSome = t.isSome := Option.isSome_map
  exact ⟨hrun, hbrake, hmoving, hidle, hduty, (hcount _).symm ▸ hdwell,
    (hcount _).symm ▸ hsettle⟩

/-- The drive after a reset is safe in any phase (R118). -/
theorem driveAfterReset_safeIn (p : Phase) : driveAfterReset.safeIn p := by
  simp [DriveBlock.safeIn, driveAfterReset]

theorem resetPart_driveSafe (kind : ResetKind) (inputs : SampledInputs) (s : State) :
    (resetPart kind inputs s).driveSafe := driveAfterReset_safeIn .init

theorem applyReset_driveSafe (s : State) : (applyReset s).driveSafe :=
  driveAfterReset_safeIn s.phases.phase

end Sys2Proof.Machine

namespace Sys2Proof.Machine

/-! The walk over the commands: `h` says that the drive is safe before the operation. -/

section
variable {s : State} (h : s.driveSafe)
include h

/-! ### Change of phase, reports and the Line Interface's queues -/

theorem updateBlink_driveSafe : (updateBlink s).driveSafe :=
  driveSafe_of_frame h (updateBlink_drive s) (updateBlink_phases s)

theorem requestCommand_driveSafe (kind : CommandKind) (arg : Word) :
    (requestCommand kind arg s).driveSafe :=
  driveSafe_of_frame h (requestCommand_drive kind arg s) (requestCommand_phases kind arg s)

theorem report_driveSafe (cause : Cause) : (report cause s).driveSafe := by
  have hlatched :
      (s.setPhases { s.phases with causes := s.phases.causes ++ [cause] }).driveSafe := h
  exact driveSafe_ite h (changePhase_driveSafe .halted hlatched)

theorem latchPeerHalt_driveSafe (station : Nat) : (latchPeerHalt station s).driveSafe := by
  have hlatched : (s.setPhases { s.phases with origin := some station }).driveSafe := h
  unfold latchPeerHalt
  split
  · exact h
  · exact changePhase_driveSafe .halted hlatched

theorem arriveFrame_driveSafe (frame : RxFrame) : (arriveFrame frame s).driveSafe := by
  unfold arriveFrame
  refine driveSafe_ite h ?_
  split
  case h_1 => exact driveSafe_ite h (report_driveSafe h _)
  all_goals exact h

/-! ### Entries into phases -/

theorem evaluateSeating_driveSafe : (evaluateSeating s).driveSafe := by
  have hcount : (s.setPhases { s.phases with seatedCount := countSeated s.peers }).driveSafe := h
  exact driveSafe_ite (driveSafe_ite (changePhase_driveSafe .lift hcount) hcount) h

theorem enterSeated_driveSafe : (enterSeated s).driveSafe :=
  evaluateSeating_driveSafe (changePhase_driveSafe .seated h)

theorem arrive_driveSafe (atMark : Bool) : (arrive atMark s).driveSafe := by
  unfold arrive
  split
  case h_1 | h_2 =>
    refine updateBlink_driveSafe ?_
    cases atMark <;> exact changePhase_driveSafe .hold h
  case h_3 => exact changePhase_driveSafe .ready h
  all_goals exact h

/-! ### Guard edges -/

theorem reportGuard_driveSafe (i : Fin 8) : (reportGuard i s).driveSafe :=
  report_driveSafe (driveSafe_ite (requestCommand_driveSafe h _ _) h) _

theorem setPending_driveSafe (i : Fin 8) : (setPending i s).driveSafe := h

theorem bottomEdge_driveSafe : (bottomEdge s).driveSafe := by
  unfold bottomEdge
  split
  case h_1 => exact changePhase_driveSafe .ready h
  case h_2 => exact driveSafe_ite (report_driveSafe (setPending_driveSafe h 2) _) h
  all_goals exact h

theorem guardEdge_driveSafe (i : Fin 8) : (guardEdge i s).driveSafe := by
  unfold guardEdge
  refine driveSafe_ite (bottomEdge_driveSafe h) ?_
  split
  case h_1 | h_2 => exact h
  all_goals exact reportGuard_driveSafe (setPending_driveSafe h i) i

theorem pseudoEdge_driveSafe (i : Fin 8) : (pseudoEdge s i).driveSafe := by
  unfold pseudoEdge
  split
  · exact h
  · exact driveSafe_ite h
      (driveSafe_ite (reportGuard_driveSafe h i) (driveSafe_ite (guardEdge_driveSafe h i) h))

theorem enterListenFromInit_driveSafe : (enterListenFromInit s).driveSafe := by
  have hedges := driveSafe_foldl (fun _ i hu => pseudoEdge_driveSafe hu i) guardLines
    (changePhase_driveSafe .listen h)
  exact driveSafe_ite (changePhase_driveSafe _ hedges) hedges

theorem activeEdge_driveSafe (i : Fin 8) : (activeEdge i s).driveSafe := by
  unfold activeEdge
  split
  · exact h
  next c _ =>
    have hlevel : (setLevel i (c.guardActiveLevel i) s).driveSafe := h
    exact driveSafe_ite h (driveSafe_ite (guardEdge_driveSafe hlevel i) hlevel)

theorem inactiveEdge_driveSafe (i : Fin 8) : (inactiveEdge i s).driveSafe := by
  unfold inactiveEdge
  split <;> exact h

/-! ### Acknowledgement and resets -/

/-- The removal of causes leaves the drive (R126). -/
theorem relieved_driveSafe : s.relieved.driveSafe := by
  rw [driveSafe_iff, relieved_phase, State.relieved, removeCauses_drive]
  exact h

theorem acknowledge_driveSafe : (acknowledge s).driveSafe :=
  driveSafe_ite (changePhase_driveSafe _ (relieved_driveSafe h)) (relieved_driveSafe h)

theorem release_driveSafe (kind : ResetKind) (inputs : SampledInputs) :
    (release kind inputs s).driveSafe := driveSafe_ite h (resetPart_driveSafe kind inputs s)

/-! ### Time and the timers -/

theorem idleStep_driveSafe : (idleStep s).driveSafe := by
  unfold idleStep
  refine driveSafe_ite h ?_
  split
  · exact passMillisecond_driveSafe h
  all_goals exact h

theorem demandExpiry_driveSafe : (demandExpiry s).driveSafe := by
  have hidle : (s.setDrive { s.drive with demandTimer := none }).driveSafe := h
  exact driveSafe_ite h (report_driveSafe (stopDrive_driveSafe hidle) _)

theorem closeWindow_driveSafe : (closeWindow s).driveSafe := driveSafe_ite h h

theorem windowExpiry_driveSafe : (windowExpiry s).driveSafe := by
  have hidle : (s.setStore { s.store with windowTimer := none }).driveSafe := h
  exact driveSafe_ite h (driveSafe_ite hidle (closeWindow_driveSafe hidle))

theorem completeCommit_driveSafe : (completeCommit s).driveSafe := by
  unfold completeCommit
  split <;> exact h

/-! ### Group commands -/

theorem handCommand_driveSafe {kind : CommandKind} {take : Word → State → State}
    (htake : ∀ {u : State}, u.driveSafe → ∀ arg : Word, (take arg u).driveSafe) :
    (handCommand kind take s).driveSafe := by
  unfold handCommand
  split
  next _ _ arg rest _ =>
    have hdropped : (s.afterHanding rest).driveSafe := h
    exact driveSafe_ite (driveSafe_ite (htake hdropped arg) hdropped) h
  next => exact h

theorem closeWindowOnMotion_driveSafe : (closeWindowOnMotion s).driveSafe :=
  driveSafe_ite h (closeWindow_driveSafe h)

theorem takeTarget_driveSafe (arg : Word) : (takeTarget arg s).driveSafe := by
  unfold takeTarget
  exact updateBlink_driveSafe (by exact h)

theorem takeRaise_driveSafe (arg : Word) : (takeRaise arg s).driveSafe := by
  have hclosed := closeWindowOnMotion_driveSafe h
  have htaken := takeTarget_driveSafe hclosed arg
  unfold takeRaise
  dsimp only
  split
  case h_1 | h_2 | h_3 | h_4 => exact hclosed
  case h_5 => exact changePhase_driveSafe .seek htaken
  case h_6 | h_7 => exact htaken
  case h_8 => exact evaluateSeating_driveSafe htaken
  all_goals exact changePhase_driveSafe _ htaken

theorem takeLower_driveSafe (arg : Word) : (takeLower arg s).driveSafe := by
  have hclosed := closeWindowOnMotion_driveSafe h
  have htaken := takeTarget_driveSafe hclosed arg
  unfold takeLower
  dsimp only
  split
  case h_1 | h_2 | h_3 | h_4 => exact hclosed
  case h_10 | h_11 => exact htaken
  all_goals exact changePhase_driveSafe _ htaken

theorem takeHold_driveSafe (arg : Word) : (takeHold arg s).driveSafe := by
  unfold takeHold
  split
  case h_7 | h_8 | h_9 | h_10 | h_11 => exact changePhase_driveSafe _ h
  all_goals exact h

theorem takeEstop_driveSafe (arg : Word) : (takeEstop arg s).driveSafe := by
  unfold takeEstop
  split
  case h_1 | h_2 | h_3 => exact h
  all_goals exact report_driveSafe h _

theorem takeAck_driveSafe (arg : Word) : (takeAck arg s).driveSafe :=
  driveSafe_ite (acknowledge_driveSafe h) h

theorem takeSetMark_driveSafe (arg : Word) : (takeSetMark arg s).driveSafe := driveSafe_ite h h

theorem takeClearMark_driveSafe (arg : Word) : (takeClearMark arg s).driveSafe :=
  driveSafe_ite (driveSafe_ite h h) h

theorem handUndefined_driveSafe : (handUndefined s).driveSafe := by
  unfold handUndefined
  split
  · exact driveSafe_ite h h
  · exact h

/-! ### The pendant -/

theorem setButton_driveSafe (button : MotionButton) (pressed : Bool) :
    (setButton button pressed s).driveSafe := by
  cases button <;> exact h

theorem setHeld_driveSafe (button : Option MotionButton) : (setHeld button s).driveSafe := h

theorem actOnPress_driveSafe (button : MotionButton) : (actOnPress button s).driveSafe := by
  have hlocked : (s.setPendant { s.pendant with held := none, lockout := true }).driveSafe := h
  exact driveSafe_ite h (driveSafe_ite (requestCommand_driveSafe hlocked _ _)
    (setHeld_driveSafe (requestCommand_driveSafe h _ _) _))

theorem pressMotion_driveSafe (button : MotionButton) : (pressMotion button s).driveSafe := by
  have hpressed := setButton_driveSafe h button true
  exact driveSafe_ite h (driveSafe_ite (actOnPress_driveSafe hpressed button) hpressed)

theorem actOnRelease_driveSafe (button : MotionButton) : (actOnRelease button s).driveSafe :=
  driveSafe_ite (driveSafe_ite h h)
    (driveSafe_ite (setHeld_driveSafe (requestCommand_driveSafe h _ _) _) h)

theorem releaseMotion_driveSafe (button : MotionButton) : (releaseMotion button s).driveSafe := by
  have hreleased := setButton_driveSafe h button false
  exact driveSafe_ite h (driveSafe_ite (actOnRelease_driveSafe hreleased button) hreleased)

theorem pressAck_driveSafe : (pressAck s).driveSafe := by
  have hpressed : (s.setPendant { s.pendant with ack := true }).driveSafe := h
  exact driveSafe_ite h (driveSafe_ite (requestCommand_driveSafe hpressed _ _) hpressed)

theorem pressMark_driveSafe : (pressMark s).driveSafe := by
  have hpressed : (s.setPendant { s.pendant with mark := true }).driveSafe := h
  exact driveSafe_ite h (driveSafe_ite (requestCommand_driveSafe hpressed _ _) hpressed)

theorem releaseSide_driveSafe (button : SideButton) : (releaseSide button s).driveSafe := by
  cases button <;> exact h

theorem removePendant_driveSafe : (removePendant s).driveSafe := by
  have hremoved : (s.setPendant
      { s.pendant with present := false, held := none, lockout := false }).driveSafe := h
  exact driveSafe_ite h (driveSafe_ite (requestCommand_driveSafe hremoved _ _) hremoved)

theorem plugPendant_driveSafe : (plugPendant s).driveSafe := h

/-! ### The Line Interface's own events -/

theorem filterFrame_driveSafe (f : LineFrame) : (filterFrame f s).driveSafe := by
  unfold filterFrame
  split
  case h_1 =>
    exact driveSafe_ite h (driveSafe_ite (report_driveSafe h _) (arriveFrame_driveSafe h _))
  all_goals exact driveSafe_ite (arriveFrame_driveSafe h _) h

theorem receiveFrame_driveSafe (bytes : List Byte) (framingError startedAtIdle : Bool) :
    (receiveFrame bytes framingError startedAtIdle s).driveSafe := by
  have hidle : (s.setLine { s.line with rxWaitsIdle := false }).driveSafe := h
  unfold receiveFrame
  refine driveSafe_ite h (driveSafe_ite hidle ?_)
  split
  · exact hidle
  · exact filterFrame_driveSafe hidle _

theorem beginAttempt_driveSafe : (beginAttempt s).driveSafe := by
  unfold beginAttempt
  refine driveSafe_ite ?_ h
  split
  · exact h
  · exact driveSafe_ite h h

theorem attemptSucceeds_driveSafe : (attemptSucceeds s).driveSafe := by
  unfold attemptSucceeds
  split
  case h_1 =>
    dsimp only
    split
    · exact arriveFrame_driveSafe (by exact h) _
    · exact h
  all_goals exact h

theorem loseArbitration_driveSafe : (loseArbitration s).driveSafe := driveSafe_ite h h

theorem transmitError_driveSafe : (transmitError s).driveSafe := by
  unfold transmitError
  exact driveSafe_ite (driveSafe_ite (report_driveSafe (by exact h) _) h) h

/-! ### Samples -/

theorem startTransfer_driveSafe : (startTransfer s).driveSafe :=
  driveSafe_ite (driveSafe_ite h (driveSafe_ite h h)) h

theorem testOverrun_driveSafe : (testOverrun s).driveSafe := by
  unfold testOverrun
  exact driveSafe_ite (driveSafe_ite (report_driveSafe (by exact h) _) h) h

theorem controlPeriod_driveSafe : (controlPeriod s).driveSafe := by
  have hrestarted :
      (s.setSensors { s.sensors with controlTimer := controlPeriodMs }).driveSafe := h
  have hposted := testOverrun_driveSafe hrestarted
  exact startTransfer_driveSafe (s := State.setSensors _ _) hposted

theorem spreadCheck_driveSafe : (spreadCheck s).driveSafe := by
  unfold spreadCheck
  split
  · exact h
  · exact driveSafe_ite (report_driveSafe h _) h

/-- The work before the demand keeps the drive safe, and the demand's duty is clamped (R39). -/
theorem followSample_driveSafe : (followSample s).driveSafe := by
  have hspread := spreadCheck_driveSafe h
  have hwork : (afterArrivalTest (spreadCheck s)).driveSafe :=
    driveSafe_ite (arrive_driveSafe hspread _) hspread
  unfold followSample
  dsimp only
  split
  · exact handDemand_driveSafe (Nat.zero_le _) hwork
  · exact handDemand_driveSafe (demandFor_duty_le _ _ _ _) hwork

theorem stallCheck_driveSafe (height : Nat) : (stallCheck height s).driveSafe := by
  unfold stallCheck
  exact driveSafe_ite h (driveSafe_ite (report_driveSafe (by exact h) _) (driveSafe_ite h h))

theorem wrongDirectionCheck_driveSafe (height : Nat) :
    (wrongDirectionCheck height s).driveSafe := driveSafe_ite (report_driveSafe h _) h

theorem takeCheck_driveSafe {brake : BrakeOrder} {start : State} {due : State → Bool}
    {cause : Cause} {check : State → State} (hcheck : (check s).driveSafe) :
    (takeCheck brake start due cause check s).driveSafe :=
  driveSafe_ite (driveSafe_ite (report_driveSafe h _) h) hcheck

theorem takeStall_driveSafe (brake : BrakeOrder) (start : State) (height : Nat) :
    (takeStall brake start height s).driveSafe :=
  takeCheck_driveSafe h (stallCheck_driveSafe h height)

theorem takeWrongDirection_driveSafe (brake : BrakeOrder) (start : State) (height : Nat) :
    (takeWrongDirection brake start height s).driveSafe :=
  takeCheck_driveSafe h (wrongDirectionCheck_driveSafe h height)

theorem driftCheck_driveSafe (height : Nat) : (driftCheck height s).driveSafe := by
  unfold driftCheck
  split
  · exact h
  · exact driveSafe_ite (report_driveSafe h _) h

theorem checkMotion_driveSafe (valid : Bool) (order : SampleOrder) (start : State) :
    (checkMotion valid order start s).driveSafe := by
  unfold checkMotion
  split
  · exact driftCheck_driveSafe
      (driveSafe_ite (takeWrongDirection_driveSafe (takeStall_driveSafe h _ _ _) _ _ _)
        (takeStall_driveSafe (takeWrongDirection_driveSafe h _ _ _) _ _ _)) _
  · exact h

theorem exitInit_driveSafe (atPosition : Bool) : (exitInit atPosition s).driveSafe :=
  driveSafe_ite (driveSafe_ite (changePhase_driveSafe _ h) h)
    (driveSafe_ite (enterListenFromInit_driveSafe h) h)

theorem positionRules_driveSafe (valid : Bool) : (positionRules valid s).driveSafe := by
  unfold positionRules
  split
  case h_1 =>
    refine exitInit_driveSafe ?_ true
    exact driveSafe_ite h h
  case h_2 => exact driveSafe_ite (enterSeated_driveSafe h) (driveSafe_ite (report_driveSafe h _) h)
  all_goals exact h

theorem loadRules_driveSafe : (loadRules s).driveSafe := by
  have hseen : (s.setPhases { s.phases with loadSeen := true }).driveSafe := h
  unfold loadRules
  split
  case h_1 => exact exitInit_driveSafe hseen false
  all_goals exact h

theorem takeSample_driveSafe (valid : Bool) (order : SampleOrder) (start : State)
    (taker : SampleTaker) : (takeSample valid order start s taker).driveSafe := by
  cases taker with
  | follower => exact followSample_driveSafe h
  | motionChecks => exact checkMotion_driveSafe h valid order start
  | phaseRules => exact positionRules_driveSafe h valid

theorem handSample_driveSafe (valid : Bool) (order : SampleOrder) :
    (handSample valid order s).driveSafe := by
  have htake (takers : List SampleTaker) {u : State} (hu : u.driveSafe) :
      (takers.foldl (takeSample valid order s) u).driveSafe :=
    driveSafe_foldl (fun _ taker hv => takeSample_driveSafe hv valid order s taker) takers hu
  have hfirst := htake ((takersOf order.takers).take order.takersBeforeReport) h
  exact htake _ (driveSafe_ite (report_driveSafe hfirst .sensorInvalid) hfirst)

theorem storePosition_driveSafe (word : BitVec 18) : (storePosition word s).driveSafe :=
  driveSafe_ite h h

theorem completePosition_driveSafe (word : BitVec 18) (order : SampleOrder) :
    (completePosition word order s).driveSafe := by
  have hidle : (s.setSensors { s.sensors with port := .idle, overrunCount := 0 }).driveSafe := h
  exact driveSafe_ite (startTransfer_driveSafe
    (handSample_driveSafe (storePosition_driveSafe hidle word) _ order)) h

theorem contactSet_driveSafe : (contactSet s).driveSafe := by
  unfold contactSet
  split
  case h_1 => exact enterSeated_driveSafe h
  all_goals exact h

theorem contactCleared_driveSafe : (contactCleared s).driveSafe := by
  unfold contactCleared
  split
  case h_1 | h_2 | h_3 => exact report_driveSafe h _
  case h_4 => exact changePhase_driveSafe _ h
  all_goals exact h

theorem qualifyContact_driveSafe (c : ConfigValues) (first : Bool) :
    (qualifyContact c first s).driveSafe := by
  have hevent (contact : Bool) :
      (s.setSensors { s.sensors with contact := contact, contactRun := 0 }).driveSafe := h
  exact driveSafe_ite h (driveSafe_ite
    (driveSafe_ite (driveSafe_ite (contactCleared_driveSafe (hevent false)) h) h)
    (driveSafe_ite (driveSafe_ite (contactSet_driveSafe (hevent true)) h) h))

theorem qualifyOverload_driveSafe (c : ConfigValues) : (qualifyOverload c s).driveSafe := by
  unfold qualifyOverload
  exact driveSafe_ite (driveSafe_ite (report_driveSafe (by exact h) _) h) h

theorem takeLoad_driveSafe (c : ConfigValues) (first : Bool) (order : LoadOrder) :
    (takeLoad c first order s).driveSafe := by
  cases order with
  | contactOverloadStart =>
    exact loadRules_driveSafe (qualifyOverload_driveSafe (qualifyContact_driveSafe h c first) c)
  | overloadContactStart =>
    exact loadRules_driveSafe (qualifyContact_driveSafe (qualifyOverload_driveSafe h c) c first)
  | contactStartOverload =>
    exact qualifyOverload_driveSafe (loadRules_driveSafe (qualifyContact_driveSafe h c first)) c

theorem completeLoad_driveSafe (word : BitVec 12) (order : LoadOrder) :
    (completeLoad word order s).driveSafe := by
  unfold completeLoad
  refine driveSafe_ite (startTransfer_driveSafe ?_) h
  split
  · exact loadRules_driveSafe (by exact h)
  next c _ => exact takeLoad_driveSafe (by exact h) c _ order

/-! ### Service frames -/

theorem takeService_driveSafe {accept : State → State} (haccept : (accept s).driveSafe) :
    (takeService accept s).driveSafe := by
  unfold takeService
  split
  · exact h
  · exact haccept

theorem writeField_driveSafe (id : Nat) (value : Word) : (writeField id value s).driveSafe := by
  unfold writeField
  split
  · exact h
  · exact driveSafe_ite h h

theorem writeTolerance_driveSafe (value : Word) : (writeTolerance value s).driveSafe := by
  unfold writeTolerance
  split
  · exact h
  · exact driveSafe_ite h h

theorem startCommit_driveSafe : (startCommit s).driveSafe := by
  unfold startCommit
  split <;> exact h

theorem handConfigWrite_driveSafe : (handConfigWrite s).driveSafe := by
  unfold handConfigWrite
  split
  next _ _ rest _ =>
    have hdropped : (s.afterHanding rest).driveSafe := h
    exact driveSafe_ite h (takeService_driveSafe hdropped (writeField_driveSafe hdropped _ _))
  next => exact h

theorem handTolRewind_driveSafe : (handTolRewind s).driveSafe := by
  unfold handTolRewind
  split
  next _ _ rest _ =>
    have hdropped : (s.afterHanding rest).driveSafe := h
    exact driveSafe_ite (takeService_driveSafe hdropped hdropped) h
  next => exact h

theorem handTolWrite_driveSafe : (handTolWrite s).driveSafe := by
  unfold handTolWrite
  split
  next _ rest _ =>
    have hdropped : (s.afterHanding rest).driveSafe := h
    exact takeService_driveSafe hdropped (writeTolerance_driveSafe hdropped _)
  next => exact h

theorem handCommit_driveSafe : (handCommit s).driveSafe := by
  unfold handCommit
  split
  next rest _ =>
    have hdropped : (s.afterHanding rest).driveSafe := h
    exact takeService_driveSafe hdropped (startCommit_driveSafe hdropped)
  next => exact h

theorem handRestart_driveSafe (inputs : SampledInputs) : (handRestart inputs s).driveSafe := by
  unfold handRestart
  split
  next rest _ =>
    have hdropped : (s.afterHanding rest).driveSafe := h
    exact takeService_driveSafe hdropped (resetPart_driveSafe .service inputs _)
  next => exact h

theorem handCloseSetup_driveSafe : (handCloseSetup s).driveSafe := by
  unfold handCloseSetup
  split
  · exact closeWindow_driveSafe (by exact h)
  · exact h

/-! ### The Peer Table -/

theorem lostNotice_driveSafe (station : Nat) : (lostNotice s station).driveSafe := by
  unfold lostNotice
  split
  case h_1 => exact changePhase_driveSafe _ h
  case h_9 | h_10 | h_11 => exact h
  all_goals exact report_driveSafe h _

theorem silenceScan_driveSafe : (silenceScan s).driveSafe := by
  have hscanned : s.scanned.driveSafe := h
  rw [silenceScan_eq]
  exact driveSafe_foldl (fun _ station hu => lostNotice_driveSafe hu station) _
    (driveSafe_ite hscanned (updateBlink_driveSafe hscanned))

theorem epochItem_driveSafe (epoch : BitVec 4) : (epochItem epoch s).driveSafe :=
  driveSafe_ite h (driveSafe_ite (acknowledge_driveSafe h) h)

theorem haltItem_driveSafe (station : Nat) (epoch : BitVec 4) (halt : HaltReport) :
    (haltItem station epoch halt s).driveSafe := by
  unfold haltItem
  split
  · exact driveSafe_ite (latchPeerHalt_driveSafe h station) h
  all_goals exact h

theorem completionNotice_driveSafe : (completionNotice s).driveSafe :=
  driveSafe_ite (changePhase_driveSafe _ h) h

theorem afterItems_driveSafe (e : PeerEntry) (restarted : Bool) :
    (s.afterItems e restarted).driveSafe := by
  have hepoch := epochItem_driveSafe h e.epoch
  have htold : (if restarted then restartedNotice (epochItem e.epoch s)
      else epochItem e.epoch s).driveSafe :=
    driveSafe_ite (driveSafe_ite (report_driveSafe hepoch _) hepoch) hepoch
  exact haltItem_driveSafe
    (driveSafe_ite htold (driveSafe_ite (report_driveSafe htold _) htold)) _ _ _

theorem statusNotice_driveSafe (e : PeerEntry) (restarted wasComplete : Bool) :
    (statusNotice e restarted wasComplete s).driveSafe := by
  have hitems := afterItems_driveSafe h e restarted
  rw [statusNotice_eq]
  exact evaluateSeating_driveSafe (driveSafe_ite (completionNotice_driveSafe hitems) hitems)

theorem takeStatus_driveSafe (station : BitVec 6) (f : StatusFields) :
    (takeStatus station f s).driveSafe := by
  unfold takeStatus
  split
  · exact h
  refine driveSafe_ite h ?_
  split
  · exact h
  refine driveSafe_ite (report_driveSafe h _) ?_
  exact statusNotice_driveSafe (updateBlink_driveSafe (by exact h)) _ _ _

theorem handStatus_driveSafe : (handStatus s).driveSafe := by
  unfold handStatus
  split
  · exact takeStatus_driveSafe (by exact h) _ _
  · exact h

/-! ### Every step -/

theorem running_driveSafe {effect : State → State} {t : State}
    (ht : running s effect = .next t) (heffect : (effect s).driveSafe) : t.driveSafe := by
  obtain rfl := Host.Outcome.next.inj ht
  exact driveSafe_ite h heffect

theorem exec_driveSafe (i : Instr) {t : State} (ht : exec i s = .next t) : t.driveSafe := by
  cases i with
  | reset kind inputs =>
    obtain rfl := Host.Outcome.next.inj ht
    exact release_driveSafe h kind inputs
  | resetApplied =>
    obtain rfl := Host.Outcome.next.inj ht
    exact applyReset_driveSafe s
  | silenceScanExpiry => exact running_driveSafe h ht (silenceScan_driveSafe h)
  | controlPeriodExpiry => exact running_driveSafe h ht (controlPeriod_driveSafe h)
  | positionCompletion word order =>
    exact running_driveSafe h ht (completePosition_driveSafe h word order)
  | loadCompletion word order => exact running_driveSafe h ht (completeLoad_driveSafe h word order)
  | statusTimerExpiry => exact running_driveSafe (effect := fillSlot) h ht h
  | dwellExpiry => exact running_driveSafe h ht (dwellExpiry_driveSafe h)
  | settleExpiry => exact running_driveSafe h ht (settleExpiry_driveSafe h)
  | demandTimerExpiry => exact running_driveSafe h ht (demandExpiry_driveSafe h)
  | blinkTimerExpiry => exact running_driveSafe (effect := blinkExpiry) h ht (driveSafe_ite h h)
  | windowTimerExpiry => exact running_driveSafe h ht (windowExpiry_driveSafe h)
  | commitCompletion => exact running_driveSafe h ht (completeCommit_driveSafe h)
  | guardActiveEdge line => exact running_driveSafe h ht (activeEdge_driveSafe h line)
  | guardInactiveEdge line => exact running_driveSafe h ht (inactiveEdge_driveSafe h line)
  | motionButtonPress button => exact running_driveSafe h ht (pressMotion_driveSafe h button)
  | deadManRelease button => exact running_driveSafe h ht (releaseMotion_driveSafe h button)
  | ackButtonPress => exact running_driveSafe h ht (pressAck_driveSafe h)
  | markButtonPress => exact running_driveSafe h ht (pressMark_driveSafe h)
  | ackOrMarkRelease button => exact running_driveSafe h ht (releaseSide_driveSafe h button)
  | pendantRemoved => exact running_driveSafe h ht (removePendant_driveSafe h)
  | pendantPlugged => exact running_driveSafe h ht (plugPendant_driveSafe h)
  | frameReceived bytes framingError startedAtIdle =>
    exact running_driveSafe h ht (receiveFrame_driveSafe h bytes framingError startedAtIdle)
  | status => exact running_driveSafe h ht (handStatus_driveSafe h)
  | raise => exact running_driveSafe h ht (handCommand_driveSafe h takeRaise_driveSafe)
  | lower => exact running_driveSafe h ht (handCommand_driveSafe h takeLower_driveSafe)
  | hold => exact running_driveSafe h ht (handCommand_driveSafe h takeHold_driveSafe)
  | estop => exact running_driveSafe h ht (handCommand_driveSafe h takeEstop_driveSafe)
  | ack => exact running_driveSafe h ht (handCommand_driveSafe h takeAck_driveSafe)
  | setMark => exact running_driveSafe h ht (handCommand_driveSafe h takeSetMark_driveSafe)
  | clearMark => exact running_driveSafe h ht (handCommand_driveSafe h takeClearMark_driveSafe)
  | configWrite => exact running_driveSafe h ht (handConfigWrite_driveSafe h)
  | tolRewind => exact running_driveSafe h ht (handTolRewind_driveSafe h)
  | tolWrite => exact running_driveSafe h ht (handTolWrite_driveSafe h)
  | commit => exact running_driveSafe h ht (handCommit_driveSafe h)
  | restart inputs => exact running_driveSafe h ht (handRestart_driveSafe h inputs)
  | closeSetup => exact running_driveSafe h ht (handCloseSetup_driveSafe h)
  | attempt => exact running_driveSafe h ht (beginAttempt_driveSafe h)
  | attemptSucceeds => exact running_driveSafe h ht (attemptSucceeds_driveSafe h)
  | transmitError => exact running_driveSafe h ht (transmitError_driveSafe h)
  | lostArbitration => exact running_driveSafe h ht (loseArbitration_driveSafe h)
  | commandKindUndefined => exact running_driveSafe h ht (handUndefined_driveSafe h)

theorem step_driveSafe {t : State} (ht : step s = .next t) : t.driveSafe := by
  rw [step] at ht
  split at ht
  · obtain rfl := Host.Outcome.next.inj ht
    exact idleStep_driveSafe h
  next c rest _ =>
    have htaken : (s.setPending rest).driveSafe := h
    exact exec_driveSafe htaken c ht

end

/-- Settles O54: every operation that writes the drive or the phase keeps the drive safe. -/
theorem stepKeepsDriveSafe : Obligations.StepKeepsDriveSafe := by
  unfold Obligations.StepKeepsDriveSafe
  intro s t hs ht
  exact step_driveSafe hs ht

end Sys2Proof.Machine

namespace Sys2Proof.Machine

/-! ### Events the part is not in a state to see (R109, R166)

For each event, the condition under which it has no effect. -/

theorem running_eq_self {effect : State → State} {s : State} (h : effect s = s) :
    running s effect = .next s := by
  rw [running, h, ite_self]

section
variable {s : State}

/-! An idle timer, and a transfer or a write that is not in flight. -/

theorem dwellExpiry_of_idle (h : s.drive.dwellTimer = none) : dwellExpiry s = s :=
  if_pos (by rw [h]; rfl)

theorem settleExpiry_of_idle (h : s.drive.settleTimer = none) : settleExpiry s = s :=
  if_pos (by rw [h]; rfl)

theorem demandExpiry_of_idle (h : s.drive.demandTimer = none) : demandExpiry s = s :=
  if_pos (by rw [h]; rfl)

theorem blinkExpiry_of_idle (h : s.pendant.blinkTimer = none) : blinkExpiry s = s :=
  if_pos (by rw [h]; rfl)

theorem windowExpiry_of_idle (h : s.store.windowTimer = none) : windowExpiry s = s :=
  if_pos (by rw [h]; rfl)

theorem completeCommit_of_idle (h : s.store.commit = .idle) : completeCommit s = s := by
  rw [completeCommit, h]

theorem completePosition_of_other (h : s.sensors.port ≠ .position) (word : BitVec 18)
    (order : SampleOrder) : completePosition word order s = s := if_neg h

theorem completeLoad_of_other (h : s.sensors.port ≠ .load) (word : BitVec 12)
    (order : LoadOrder) : completeLoad word order s = s := if_neg h

/-! A line or a button that is at the level already. -/

theorem activeEdge_of_active {c : ConfigValues} {i : Fin 8} (hc : s.store.active = some c)
    (hlevel : s.guards.levels.getLsbD i.val = c.fields.guardPolarity.getLsbD i.val) :
    activeEdge i s = s := by
  rw [activeEdge, hc]
  exact if_pos hlevel

theorem pressMotion_of_down {button : MotionButton} (h : buttonLevel s button = true) :
    pressMotion button s = s := if_pos h

theorem releaseMotion_of_up {button : MotionButton} (h : buttonLevel s button = false) :
    releaseMotion button s = s := if_pos (by rw [h]; rfl)

theorem pressAck_of_down (h : s.pendant.ack = true) : pressAck s = s := if_pos h

theorem pressMark_of_down (h : s.pendant.mark = true) : pressMark s = s := if_pos h

theorem removePendant_of_absent (h : s.pendant.present = false) : removePendant s = s :=
  if_pos (by rw [h]; rfl)

/-! The end of an attempt that is not under way. -/

theorem attemptSucceeds_of_silent (h : s.line.tx.isSending = false) : attemptSucceeds s = s := by
  unfold attemptSucceeds
  split
  case h_1 htx | h_2 htx => simp [htx, TxState.isSending] at h
  all_goals rfl

theorem transmitError_of_silent (h : s.line.tx.isSending = false) : transmitError s = s :=
  if_neg (by simp [h])

theorem loseArbitration_of_silent (h : s.line.tx.isSending = false) : loseArbitration s = s :=
  if_neg (by simp [h])

/-! A frame that is not at the head of the receive queue (R166). -/

theorem handStatus_of_other
    (h : ∀ station fields rest, s.line.rxQueue ≠ .status station fields :: rest) :
    handStatus s = s := by
  unfold handStatus
  split
  next hhead => exact absurd hhead (h _ _ _)
  next => rfl

/-- The head is no COMMAND frame, or one of another kind. -/
theorem handCommand_of_other {kind : CommandKind} {take : Word → State → State}
    (h : ∀ station code arg rest,
      s.line.rxQueue = .command station code arg :: rest → code ≠ kind.code) :
    handCommand kind take s = s := by
  unfold handCommand
  split
  next hhead => exact if_neg (h _ _ _ _ hhead)
  next => rfl

/-- The head is no COMMAND frame, or one of a kind that names a command (R154). -/
theorem handUndefined_of_other
    (h : ∀ station code arg rest,
      s.line.rxQueue = .command station code arg :: rest → kindUndefined code = false) :
    handUndefined s = s := by
  unfold handUndefined
  split
  next hhead => exact if_neg (by simp [h _ _ _ _ hhead])
  next => rfl

theorem handConfigWrite_of_other
    (h : ∀ id value rest, s.line.rxQueue = .configWrite id value :: rest → id = 21#8) :
    handConfigWrite s = s := by
  unfold handConfigWrite
  split
  next hhead => exact if_pos (h _ _ _ hhead)
  next => rfl

theorem handTolRewind_of_other
    (h : ∀ id value rest, s.line.rxQueue = .configWrite id value :: rest → id ≠ 21#8) :
    handTolRewind s = s := by
  unfold handTolRewind
  split
  next hhead => exact if_neg (h _ _ _ hhead)
  next => rfl

theorem handTolWrite_of_other (h : ∀ value rest, s.line.rxQueue ≠ .tolWrite value :: rest) :
    handTolWrite s = s := by
  unfold handTolWrite
  split
  next hhead => exact absurd hhead (h _ _)
  next => rfl

theorem handCommit_of_other (h : ∀ rest, s.line.rxQueue ≠ .commit :: rest) :
    handCommit s = s := by
  unfold handCommit
  split
  next hhead => exact absurd hhead (h _)
  next => rfl

theorem handRestart_of_other (h : ∀ rest, s.line.rxQueue ≠ .restart :: rest)
    (inputs : SampledInputs) : handRestart inputs s = s := by
  unfold handRestart
  split
  next hhead => exact absurd hhead (h _)
  next => rfl

theorem handCloseSetup_of_other (h : ∀ rest, s.line.rxQueue ≠ .closeSetup :: rest) :
    handCloseSetup s = s := by
  unfold handCloseSetup
  split
  next hhead => exact absurd hhead (h _)
  next => rfl

/-- With no COMMAND frame at the head no group command is taken. -/
theorem exec_groupCommand_of_other
    (h : ∀ station code arg rest, s.line.rxQueue ≠ .command station code arg :: rest) :
    ∀ c ∈ [Instr.raise, .lower, .hold, .estop, .ack, .setMark, .clearMark,
        .commandKindUndefined],
      exec c s = .next s := by
  have hcommand (kind : CommandKind) (take : Word → State → State) :
      running s (handCommand kind take) = .next s :=
    running_eq_self (handCommand_of_other fun _ _ _ _ hhead => absurd hhead (h _ _ _ _))
  have hundefined : running s handUndefined = .next s :=
    running_eq_self (handUndefined_of_other fun _ _ _ _ hhead => absurd hhead (h _ _ _ _))
  simp only [List.forall_mem_cons]
  exact ⟨hcommand _ _, hcommand _ _, hcommand _ _, hcommand _ _, hcommand _ _, hcommand _ _,
    hcommand _ _, hundefined, by simp⟩

/-- With an empty receive queue nothing is handed. -/
theorem exec_hand_of_empty (h : s.line.rxQueue = []) (inputs : SampledInputs) :
    ∀ c ∈ [Instr.status, .raise, .lower, .hold, .estop, .ack, .setMark, .clearMark,
        .commandKindUndefined, .configWrite, .tolRewind, .tolWrite, .commit, .restart inputs,
        .closeSetup],
      exec c s = .next s := by
  have hcommands := exec_groupCommand_of_other (s := s) (by simp [h])
  simp only [List.forall_mem_cons] at hcommands ⊢
  obtain ⟨hraise, hlower, hhold, hestop, hack, hset, hclear, hundefined, -⟩ := hcommands
  exact ⟨running_eq_self (handStatus_of_other (by simp [h])), hraise, hlower, hhold, hestop, hack,
    hset, hclear, hundefined, running_eq_self (handConfigWrite_of_other (by simp [h])),
    running_eq_self (handTolRewind_of_other (by simp [h])),
    running_eq_self (handTolWrite_of_other (by simp [h])),
    running_eq_self (handCommit_of_other (by simp [h])),
    running_eq_self (handRestart_of_other (by simp [h]) inputs),
    running_eq_self (handCloseSetup_of_other (by simp [h])), by simp⟩

/-- The kind codes 1 to 7 name a command (R154). -/
theorem kindUndefined_of_named {code : BitVec 4} (hfirst : 1 ≤ code.toNat)
    (hlast : code.toNat ≤ 7) : kindUndefined code = false := by
  simp only [kindUndefined, Bool.or_eq_false_iff, beq_eq_false_iff_ne, decide_eq_false_iff_not]
  omega

/-- A COMMAND frame at the head is handed as no other kind than its own. -/
theorem exec_groupCommand_of_kind {station : BitVec 6} {kind : BitVec 4} {arg : Word}
    {rest : List RxFrame} (hhead : s.line.rxQueue = .command station kind arg :: rest) :
    (kind ≠ 1#4 → exec .raise s = .next s) ∧ (kind ≠ 2#4 → exec .lower s = .next s) ∧
      (kind ≠ 3#4 → exec .hold s = .next s) ∧ (kind ≠ 4#4 → exec .estop s = .next s) ∧
      (kind ≠ 5#4 → exec .ack s = .next s) ∧ (kind ≠ 6#4 → exec .setMark s = .next s) ∧
      (kind ≠ 7#4 → exec .clearMark s = .next s) ∧
      (1 ≤ kind.toNat → kind.toNat ≤ 7 → exec .commandKindUndefined s = .next s) := by
  have hkind {other : BitVec 6} {code : BitVec 4} {given : Word} {tail : List RxFrame}
      (heq : s.line.rxQueue = .command other code given :: tail) : code = kind := by
    rw [hhead] at heq
    cases heq
    rfl
  have hcommand (named : CommandKind) (take : Word → State → State)
      (hne : kind ≠ named.code) : running s (handCommand named take) = .next s :=
    running_eq_self (handCommand_of_other fun _ _ _ _ heq => hkind heq ▸ hne)
  exact ⟨hcommand .raise takeRaise, hcommand .lower takeLower, hcommand .hold takeHold,
    hcommand .estop takeEstop, hcommand .ack takeAck, hcommand .setMark takeSetMark,
    hcommand .clearMark takeClearMark, fun hfirst hlast =>
      running_eq_self (handUndefined_of_other fun _ _ _ _ heq =>
        hkind heq ▸ kindUndefined_of_named hfirst hlast)⟩

end

/-- Settles O13: each event by the lemma of its effect. -/
theorem commandsWithoutEventChangeNothing : Obligations.CommandsWithoutEventChangeNothing := by
  unfold Obligations.CommandsWithoutEventChangeNothing
  intro s _
  refine ⟨fun h => running_eq_self (dwellExpiry_of_idle h),
    fun h => running_eq_self (settleExpiry_of_idle h),
    fun h => running_eq_self (demandExpiry_of_idle h),
    fun h => running_eq_self (blinkExpiry_of_idle h),
    fun h => running_eq_self (windowExpiry_of_idle h),
    fun h => running_eq_self (completeCommit_of_idle h),
    fun word order h => running_eq_self (completePosition_of_other h word order),
    fun word order h => running_eq_self (completeLoad_of_other h word order),
    fun c i hc hlevel => running_eq_self (activeEdge_of_active hc hlevel),
    fun h => running_eq_self (pressMotion_of_down (button := .raise) h),
    fun h => running_eq_self (pressMotion_of_down (button := .lower) h),
    fun h => running_eq_self (releaseMotion_of_up (button := .raise) h),
    fun h => running_eq_self (releaseMotion_of_up (button := .lower) h),
    fun h => running_eq_self (pressAck_of_down h),
    fun h => running_eq_self (pressMark_of_down h),
    fun h => running_eq_self (removePendant_of_absent h),
    fun h => ⟨running_eq_self (attemptSucceeds_of_silent h),
      running_eq_self (transmitError_of_silent h), running_eq_self (loseArbitration_of_silent h)⟩,
    exec_hand_of_empty, fun frame rest hhead => ?_⟩
  have hother {f : RxFrame} (hne : frame ≠ f) (tail : List RxFrame) :
      s.line.rxQueue ≠ f :: tail :=
    fun heq => hne (List.cons.inj (hhead.symm.trans heq)).1
  refine ⟨fun h => running_eq_self (handStatus_of_other fun _ _ => hother (h _ _)),
    fun h => exec_groupCommand_of_other fun _ _ _ => hother (h _ _ _),
    fun station kind arg h => exec_groupCommand_of_kind (h ▸ hhead),
    fun id value h => ⟨fun hid => ?_, fun hid => ?_⟩, fun h => ⟨?_, ?_⟩,
    fun h => running_eq_self (handTolWrite_of_other fun _ => hother (h _)),
    fun h => running_eq_self (handCommit_of_other (hother h)),
    fun inputs h => running_eq_self (handRestart_of_other (hother h) inputs),
    fun h => running_eq_self (handCloseSetup_of_other (hother h))⟩
  · exact running_eq_self (handConfigWrite_of_other (by simpa [hhead, h] using hid))
  · exact running_eq_self (handTolRewind_of_other (by simpa [hhead, h] using hid))
  · exact running_eq_self (handConfigWrite_of_other fun _ _ _ heq =>
      absurd heq (hother (h _ _) _))
  · exact running_eq_self (handTolRewind_of_other fun _ _ _ heq =>
      absurd heq (hother (h _ _) _))

end Sys2Proof.Machine

namespace Sys2Proof.Machine

/-! ### The demand timer (R116) -/

/-- The part stopped for want of demands, before the report. -/
def State.starved (s : State) : State :=
  stopDrive (s.setDrive { s.drive with demandTimer := none })

theorem demandExpiry_of_running {s : State} (h : s.drive.demandTimer ≠ none) :
    demandExpiry s = report .driveStarved s.starved := by
  simp [demandExpiry, State.starved, h]

theorem starved_phases (s : State) : s.starved.phases = s.phases := stopDrive_phases _

theorem starved_drive (s : State) :
    s.starved.drive =
      if s.drive.state = .stopped then { s.drive with demandTimer := none }
      else
        { s.drive with
          duty := 0, runEnable := false, brakeReleased := false, state := .stopped
          dwellTimer := none, settleTimer := some 100, demandTimer := none } := by
  split
  next hstate =>
    exact congrArg State.drive
      (stopDrive_of_stopped (s := s.setDrive { s.drive with demandTimer := none }) hstate)
  next hstate => exact stopDrive_lines (s := s.setDrive _) hstate

theorem starved_stopped (s : State) : s.starved.drive.state = .stopped := by
  rw [starved_drive]
  split
  next hstate => exact hstate
  next => rfl

theorem starved_checks {s : State} (h : s.drive.state ≠ .stopped) :
    s.starved.checks = { s.checks with stallArmed := false, watched := none, extreme := none } :=
  (stopDrive_checks _).trans (if_neg h)

theorem starved_onlyPhaseMoved (s : State) : s.onlyPhaseMoved s.starved := by
  simp [State.onlyPhaseMoved, State.starved]

theorem starved_haltExact {s : State} (hx : s.haltExact) : s.starved.haltExact := by
  simpa only [State.haltExact, starved_phases] using hx

/-- A report finds nothing to do in a drive that stands still (R111). -/
theorem report_drive_of_stopped {s : State} (h : s.drive.state = .stopped) (cause : Cause) :
    (report cause s).drive = s.drive := by
  have hstays (old : Phase) : driveAfter old .halted s.drive = s.drive := by
    simp [driveAfter, Phase.isMotion, h]
  unfold report
  split
  next => rfl
  next => simp only [fillSlot_drive, changePhase_drive, State.setPhases_drive, hstays, ite_self]

/-- Nor in the motion checks, which its brake has left (R132, R135). -/
theorem report_checks_of_stopped {s : State} (h : s.drive.state = .stopped) (cause : Cause) :
    (report cause s).checks = s.checks := by
  unfold report
  split
  next => rfl
  next =>
    rw [fillSlot_checks]
    by_cases hp : s.phases.phase = .halted
    · simp [changePhase, hp]
    · rw [changePhase_checks (by exact hp)]
      simp [Phase.starts, Phase.stops, h, Phase.isMotion]

/-- Settles O14: the drive is stopped first, and the report behind it moves phase and causes. -/
theorem demandTimerStopsDrive : Obligations.DemandTimerStopsDrive := by
  unfold Obligations.DemandTimerStopsDrive
  intro s hfree hexact htimer
  have hstopped := starved_stopped s
  have hcauses := report_causes s.starved .driveStarved
  have hphase := report_phase s.starved .driveStarved (starved_haltExact hexact)
  have hkept := report_kept s.starved .driveStarved
  simp only [State.causesWith, State.phaseWithCause, State.kept, starved_phases]
    at hcauses hphase hkept
  refine ⟨report .driveStarved s.starved,
    (running_of_free hfree).trans (congrArg _ (demandExpiry_of_running htimer)),
    (report_drive_of_stopped hstopped _).trans (starved_drive s), fun hmoving => ?_, hcauses,
    hphase, (starved_onlyPhaseMoved s).trans (report_onlyPhaseMoved _ _), hkept⟩
  rw [report_checks_of_stopped hstopped, starved_checks hmoving]
  exact ⟨rfl, rfl, rfl⟩

/-! ### A reset that begins to be applied (R118, R183) -/

theorem recordAtReset_eq (s : State) :
    recordAtReset s = if s.store.commit = .idle then s.store.record else .broken := by
  unfold recordAtReset
  cases s.store.commit <;> rfl

theorem applyReset_held (s : State) : (applyReset s).held = true := by
  simp [State.held, applyReset, resetSources]

/-- The line is released (R168). -/
theorem applyReset_not_isSending (s : State) : (applyReset s).line.tx.isSending = false := by
  have htx : (applyReset s).line.tx = if s.line.tx.isSending then .waiting else s.line.tx := rfl
  rw [htx]
  split
  next => rfl
  next hsilent => exact Bool.eq_false_iff.2 hsilent

/-- The first of two releases takes a reset away and nothing else (R183). -/
theorem release_of_first (kind : ResetKind) (inputs : SampledInputs) {s : State}
    (h : s.resetsApplied = 2) : release kind inputs s = { s with resetsApplied := 1 } := by
  rw [release, if_pos (by omega), h]
  rfl

/-- Settles O8: `applyReset` is the state written out, and of two releases the second starts the
column. -/
theorem resetAppliedHoldsLines : Obligations.ResetAppliedHoldsLines := by
  unfold Obligations.ResetAppliedHoldsLines
  refine ⟨fun s t ht => ?_, fun s first last inputs later hboth => ?_⟩
  · have happlied : applyReset s = t := by
      rw [ht, ← recordAtReset_eq]
      rfl
    subst happlied
    exact ⟨rfl, applyReset_held s, applyReset_not_isSending s⟩
  · exact ⟨congrArg _ (release_of_first first inputs hboth), rfl, resetPart last later _,
      congrArg _ (release_of_last last later (Nat.le_refl 1)), rfl, rfl, rfl⟩

end Sys2Proof.Machine

/-! ## Faults, causes and acknowledgement: proofs of the family's statements -/

namespace Sys2Proof.Machine

/-! ### The status slot (R158) -/

theorem fillSlot_onlyPhaseMoved (s : State) : s.onlyPhaseMoved (fillSlot s) := by
  simp [State.onlyPhaseMoved, fillSlot]

theorem fillSlot_kept (s : State) : s.kept (fillSlot s) := by simp [State.kept]

/-! ### A report (R120, R64) -/

theorem Phase.dropsReports_of_ne {p : Phase} (hinit : p ≠ .init) (hun : p ≠ .unconfigured) :
    p.dropsReports = false := by
  rw [← Bool.not_eq_true, Phase.dropsReports_iff]
  exact not_or.2 ⟨hinit, hun⟩

/-- A cause that is heard and new is latched: the list first, then the change of phase, then the
slot. -/
theorem report_eq_of_new {cause : Cause} {s : State} (hheard : s.phases.phase.dropsReports = false)
    (hnew : cause ∉ s.phases.causes) :
    report cause s =
      fillSlot
        (changePhase .halted
          { s with phases := { s.phases with causes := s.phases.causes ++ [cause] } }) := by
  unfold report
  rw [if_neg (by simp [hheard, hnew])]
  rfl

/-- The drive stops with the halt, and one that is halted already stands (R64, R111). -/
theorem report_drive_of_new {cause : Cause} {s : State}
    (hheard : s.phases.phase.dropsReports = false) (hnew : cause ∉ s.phases.causes) :
    (report cause s).drive = driveAfter s.phases.phase .halted s.drive := by
  rw [report_eq_of_new hheard hnew, fillSlot_drive, changePhase_drive]
  split
  next hhalted =>
    change s.phases.phase = .halted at hhalted
    rw [hhalted, driveAfter_halted]
  next => rfl

/-- Settles O34: a report is dropped, known, or new, and a new one is the list, the change of phase
and the slot. -/
theorem reportLatchesCause : Obligations.ReportLatchesCause := by
  unfold Obligations.ReportLatchesCause
  intro s cause
  refine ⟨fun h => report_of_dropped ((Phase.dropsReports_iff _).2 h), report_of_known,
    fun hinit hun hnew => ?_⟩
  have hheard := Phase.dropsReports_of_ne hinit hun
  have heq := report_eq_of_new hheard hnew
  obtain ⟨hcauses, hphase, hslot⟩ := report_of_new hheard hnew
  obtain ⟨-, -, -, horigin⟩ := report_keeps cause s
  have htimer : (report cause s).line.statusTimer = 20 := by
    rw [heq]
    rfl
  refine ⟨hcauses, horigin, hphase, hslot, htimer, report_drive_of_new hheard hnew,
    report_onlyPhaseMoved s cause, report_kept s cause, fun u hu => ?_⟩
  rw [heq, ← hu]
  refine congrArg u.setLine ?_
  cases u.line.tx <;> rfl

end Sys2Proof.Machine

namespace Sys2Proof.Machine

/-! ### The removal of causes (R125, R126) -/

/-- A cause is kept exactly while its condition persists (R126). -/
theorem removable_eq_false_iff {s : State} {c : ConfigValues} (hc : s.store.active = some c)
    (cause : Cause) : removable s cause = false ↔ s.causePersists cause := by
  cases cause
  case overload =>
    cases hsat : s.sensors.lastSaturated <;> simp [removable, State.causePersists, hc, hsat]
  case configMismatch =>
    have hfree := mismatchFree_iff s
    rw [← not_iff_not, Bool.not_eq_false]
    simpa [removable, State.causePersists] using hfree
  all_goals simp [removable, State.causePersists]

/-- The removal conditions read nothing of the phase block. -/
theorem removable_setPhases (s : State) (x : PhaseBlock) (cause : Cause) :
    removable (s.setPhases x) cause = removable s cause := by
  cases cause <;> rfl

theorem Cause.guardLine_guardCause (i : Fin 8) : (guardCause i).guardLine = some i := by
  revert i
  decide

theorem Cause.guardLine_eq_some_iff {cause : Cause} {i : Fin 8} :
    cause.guardLine = some i ↔ guardCause i = cause := by
  refine ⟨fun h => ?_, fun h => h ▸ guardLine_guardCause i⟩
  simpa using List.find?_some h

/-- The removal of a guard cause clears its own line's latch and no other (R143). -/
theorem afterRemoval_latch (s : State) (cause : Cause) (i : Fin 8) :
    (afterRemoval s cause).guards.pending.getLsbD i.val =
      (s.guards.pending.getLsbD i.val && !decide (guardCause i = cause)) := by
  unfold afterRemoval
  split
  next j hj =>
    rw [State.setGuards_guards, setBit8_getLsbD]
    have hij : guardCause i = cause ↔ i = j := by
      rw [← Cause.guardLine_eq_some_iff, hj, Option.some_inj, eq_comm]
    split
    next h => simp [hij.2 h]
    next h => simp [mt hij.1 h]
  next hnone =>
    have hne : guardCause i ≠ cause := fun h => by
      simp [Cause.guardLine_eq_some_iff.2 h] at hnone
    split <;> simp [hne]

theorem afterRemoval_levels (s : State) (cause : Cause) :
    (afterRemoval s cause).guards.levels = s.guards.levels := by
  cases cause <;> rfl

/-- The removal of DRIFT takes the reference afresh (R136). -/
theorem afterRemoval_driftRef (s : State) (cause : Cause) :
    (afterRemoval s cause).checks.driftRef =
      if .drift = cause then s.sensors.height else s.checks.driftRef := by
  cases cause <;> rfl

/-- The Line Interface with its error count cleared and the transmitter out of DISABLED (R161). -/
def LineBlock.restored (b : LineBlock) : LineBlock :=
  { b with
    errors := 0
    tx := if b.tx = .disabled then (if b.slot then .waiting else .idle) else b.tx }

theorem LineBlock.restored_tx_ne_disabled (b : LineBlock) : b.restored.tx ≠ .disabled := by
  simp only [LineBlock.restored]
  split
  · split <;> simp
  · assumption

theorem LineBlock.restored_restored (b : LineBlock) : b.restored.restored = b.restored := by
  rw [LineBlock.restored, if_neg b.restored_tx_ne_disabled]
  rfl

/-- The removal of LINE_FAULT restores the Line Interface (R161). -/
theorem afterRemoval_line (s : State) (cause : Cause) :
    (afterRemoval s cause).line = if .lineFault = cause then s.line.restored else s.line := by
  cases cause <;> rfl

/-! Each of these over a list of causes removed. -/

theorem afterRemovals_latch (causes : List Cause) (s : State) (i : Fin 8) :
    (causes.foldl afterRemoval s).guards.pending.getLsbD i.val =
      (s.guards.pending.getLsbD i.val && !decide (guardCause i ∈ causes)) := by
  induction causes generalizing s with
  | nil => simp
  | cons cause rest ih =>
    rw [List.foldl_cons, ih, afterRemoval_latch, Bool.and_assoc, ← Bool.not_or, ← Bool.decide_or]
    simp only [List.mem_cons]

theorem afterRemovals_levels (causes : List Cause) (s : State) :
    (causes.foldl afterRemoval s).guards.levels = s.guards.levels := by
  induction causes generalizing s with
  | nil => rfl
  | cons cause rest ih => exact (ih _).trans (afterRemoval_levels s cause)

theorem afterRemovals_driftRef (causes : List Cause) (s : State) :
    (causes.foldl afterRemoval s).checks.driftRef =
      if .drift ∈ causes then s.sensors.height else s.checks.driftRef := by
  induction causes generalizing s with
  | nil => simp
  | cons cause rest ih =>
    rw [List.foldl_cons, ih, afterRemoval_sensors, afterRemoval_driftRef]
    by_cases hfirst : Cause.drift = cause <;> by_cases hrest : Cause.drift ∈ rest <;>
      simp [hfirst, hrest]

theorem afterRemovals_line (causes : List Cause) (s : State) :
    (causes.foldl afterRemoval s).line =
      if .lineFault ∈ causes then s.line.restored else s.line := by
  induction causes generalizing s with
  | nil => simp
  | cons cause rest ih =>
    rw [List.foldl_cons, ih, afterRemoval_line]
    by_cases hfirst : Cause.lineFault = cause <;> by_cases hrest : Cause.lineFault ∈ rest <;>
      simp [hfirst, hrest, LineBlock.restored_restored]

/-! ### The part relieved of its removable causes -/

/-- The causes an acknowledgement takes away. -/
def State.removedCauses (s : State) : List Cause := s.phases.causes.filter (removable s)

/-- The part under the next epoch, as the removals find it. -/
def State.nextEpoch (s : State) : State :=
  s.setPhases { s.phases with epoch := s.phases.epoch + 1#4 }

theorem State.nextEpoch_removedCauses (s : State) :
    s.nextEpoch.removedCauses = s.removedCauses :=
  List.filter_congr fun cause _ => removable_setPhases s _ cause

theorem relieved_eq (s : State) :
    s.relieved =
      (s.removedCauses.foldl afterRemoval s.nextEpoch).setPhases s.relieved.phases := by
  rw [← s.nextEpoch_removedCauses]
  rfl

theorem relieved_phases (s : State) :
    s.relieved.phases =
      { s.phases with
        epoch := s.phases.epoch + 1#4
        causes := s.phases.causes.filter (fun cause => !removable s cause)
        origin := none } := by
  have hkeep (x : PhaseBlock) : removable (s.setPhases x) = removable s :=
    funext (removable_setPhases s x)
  simp [State.relieved, removeCauses, hkeep]

theorem mem_relieved_causes {s : State} {c : ConfigValues} (hc : s.store.active = some c)
    (cause : Cause) :
    cause ∈ s.relieved.phases.causes ↔ cause ∈ s.phases.causes ∧ s.causePersists cause := by
  rw [relieved_phases, List.mem_filter, Bool.not_eq_true', removable_eq_false_iff hc]

theorem relieved_causes_sublist (s : State) :
    s.relieved.phases.causes.Sublist s.phases.causes := by
  rw [relieved_phases]
  exact List.filter_sublist

theorem mem_removedCauses_iff {s : State} {cause : Cause} :
    cause ∈ s.removedCauses ↔
      cause ∈ s.phases.causes ∧ cause ∉ s.relieved.phases.causes := by
  rw [State.removedCauses, relieved_phases]
  simp +contextual

theorem relieved_latch (s : State) (i : Fin 8) :
    s.relieved.guards.pending.getLsbD i.val =
      (s.guards.pending.getLsbD i.val &&
        !decide (guardCause i ∈ s.phases.causes ∧
          guardCause i ∉ s.relieved.phases.causes)) := by
  rw [relieved_eq, State.setPhases_guards, afterRemovals_latch, ← relieved_eq,
    decide_eq_decide.2 mem_removedCauses_iff]
  rfl

theorem relieved_levels (s : State) : s.relieved.guards.levels = s.guards.levels := by
  rw [relieved_eq, State.setPhases_guards, afterRemovals_levels]
  rfl

/-- DRIFT is always removed, and its removal takes the reference afresh (R126, R136). -/
theorem relieved_driftRef {s : State} (h : .drift ∈ s.phases.causes) :
    s.relieved.checks.driftRef = s.sensors.height := by
  have hremoved : .drift ∈ s.removedCauses := List.mem_filter.2 ⟨h, rfl⟩
  rw [relieved_eq, State.setPhases_checks, afterRemovals_driftRef, if_pos hremoved]
  rfl

theorem relieved_line (s : State) :
    s.relieved.line = if .lineFault ∈ s.phases.causes then s.line.restored else s.line := by
  have hremoved : .lineFault ∈ s.removedCauses ↔ .lineFault ∈ s.phases.causes :=
    List.mem_filter.trans (and_iff_left rfl)
  rw [relieved_eq, State.setPhases_line, afterRemovals_line, if_congr hremoved rfl rfl]
  rfl

theorem relieved_queues (s : State) :
    s.relieved.line.queue = s.line.queue ∧ s.relieved.line.rxQueue = s.line.rxQueue := by
  rw [relieved_line]
  split <;> exact ⟨rfl, rfl⟩

theorem relieved_peers (s : State) : s.relieved.peers = s.peers := removeCauses_peers _

theorem relieved_sensors (s : State) : s.relieved.sensors = s.sensors := removeCauses_sensors _

theorem relieved_store (s : State) : s.relieved.store = s.store := removeCauses_store _

/-! ### The acknowledgement behind the removals (R125, R66) -/

theorem exitPhase_not_isMotion (s : State) : (exitPhase s).isMotion = false := by
  unfold exitPhase
  split <;> [split; skip] <;> rfl

theorem exitPhase_relieved (s : State) :
    exitPhase s.relieved =
      if groupComplete s then (if s.sensors.contact then .hold else .ready) else .listen := by
  rw [exitPhase, groupComplete_congr (relieved_store s) (relieved_peers s), relieved_sensors]

theorem acknowledge_onlyPhaseMoved (s : State) : s.relieved.onlyPhaseMoved (acknowledge s) := by
  rw [acknowledge_eq]
  refine .trans ?_ (fillSlot_onlyPhaseMoved _)
  split
  · exact changePhase_onlyPhaseMoved _ _
  · exact .refl _

theorem acknowledge_kept (s : State) : s.relieved.kept (acknowledge s) := by
  rw [acknowledge_eq]
  refine .trans ?_ (fillSlot_kept _)
  split
  · exact changePhase_kept _ _
  · exact .refl _

theorem acknowledge_causes (s : State) :
    (acknowledge s).phases.causes = s.relieved.phases.causes := by
  rw [acknowledge_eq, fillSlot_phases]
  split
  · exact changePhase_causes _ _
  · rfl

theorem acknowledge_origin (s : State) : (acknowledge s).phases.origin = none := by
  rw [acknowledge_eq, fillSlot_phases]
  split
  · exact (changePhase_origin _ _).trans (relieved_origin s)
  · exact relieved_origin s

/-- The origin being gone, an empty list is all that HALTED waits for (R66). -/
theorem acknowledge_phase (s : State) :
    (acknowledge s).phases.phase =
      if s.phases.phase = .halted ∧ (acknowledge s).phases.causes = [] then
        exitPhase s.relieved
      else s.phases.phase := by
  rw [acknowledge_causes, acknowledge_eq, fillSlot_phases, relieved_origin]
  simp only [Bool.and_eq_true, decide_eq_true_eq, List.isEmpty_iff, Option.isNone_none, and_true,
    relieved_phase]
  split
  · exact changePhase_phase _ _
  · exact relieved_phase s

/-- A column that does not start keeps the drift reference (R136). -/
theorem changePhase_driftRef {new : Phase} (h : new.isMotion = false) (s : State) :
    (changePhase new s).checks.driftRef = s.checks.driftRef := by
  by_cases hp : s.phases.phase = new
  · rw [← hp, changePhase_same]
  · simp [changePhase_checks hp, Phase.starts, h]

theorem acknowledge_driftRef (s : State) :
    (acknowledge s).checks.driftRef = s.relieved.checks.driftRef := by
  rw [acknowledge_eq, fillSlot_checks]
  split
  · exact changePhase_driftRef (exitPhase_not_isMotion _) _
  · rfl

theorem TxState.afterFill_ne_disabled {tx : TxState} (h : tx ≠ .disabled) :
    tx.afterFill ≠ .disabled := by
  cases tx <;> simp_all [TxState.afterFill]

theorem changePhase_tx_ne_disabled {s : State} (h : s.line.tx ≠ .disabled) (new : Phase) :
    (changePhase new s).line.tx ≠ .disabled := by
  by_cases hp : s.phases.phase = new
  · rwa [← hp, changePhase_same]
  · rw [changePhase_line hp]
    exact TxState.afterFill_ne_disabled h

theorem acknowledge_tx_ne_disabled {s : State} (h : s.relieved.line.tx ≠ .disabled) :
    (acknowledge s).line.tx ≠ .disabled := by
  rw [acknowledge_eq]
  refine TxState.afterFill_ne_disabled ?_
  split
  · exact changePhase_tx_ne_disabled h _
  · exact h

/-- Settles O46: the removals make `relieved`, and what follows them moves no more than a phase and
the slot. -/
theorem acknowledgementRemovesCauses : Obligations.AcknowledgementRemovesCauses := by
  unfold Obligations.AcknowledgementRemovesCauses
  intro s c hc
  obtain ⟨-, -, -, hguards, -, -, -, -, -, -, -, -, -, -, -, herrors, hqueue, hrx, -⟩ :=
    acknowledge_onlyPhaseMoved s
  obtain ⟨htarget, hmark, -, -, -, -, hepoch⟩ := acknowledge_kept s
  obtain ⟨hqueue', hrx'⟩ := relieved_queues s
  rw [relieved_phases] at htarget hmark hepoch
  have hphase := acknowledge_phase s
  rw [exitPhase_relieved] at hphase
  rw [acknowledge_causes] at hphase ⊢
  refine ⟨hepoch, acknowledge_origin s, mem_relieved_causes hc, relieved_causes_sublist s, hphase,
    rfl, rfl, fun i => hguards ▸ relieved_latch s i,
    fun hdrift => (acknowledge_driftRef s).trans (relieved_driftRef hdrift), fun hfault => ?_,
    htarget, hmark, hguards ▸ relieved_levels s, acknowledge_peers s, acknowledge_sensors s,
    acknowledge_store s, hqueue.trans hqueue', hrx.trans hrx'⟩
  have hline : s.relieved.line = s.line.restored := (relieved_line s).trans (if_pos hfault)
  refine ⟨herrors.trans (hline ▸ rfl), acknowledge_tx_ne_disabled ?_⟩
  rw [hline]
  exact s.line.restored_tx_ne_disabled

end Sys2Proof.Machine

namespace Sys2Proof.Machine

/-! ### The stall check (R133, R134) -/

theorem heightGap_le_iff {a b n : Nat} : heightGap a b ≤ n ↔ a ≤ b + n ∧ b ≤ a + n := by
  unfold heightGap
  omega

/-- A sample of an armed check counts when creep or more is asked for and the column stands within 1
of the reference (R133). -/
theorem stallCounts_iff {s : State} {c : ConfigValues} (hc : s.store.active = some c) (h : Nat) :
    stallCounts h s = true ↔
      s.checks.stallArmed = true ∧ c.fields.vCreep.toNat ≤ s.follower.lastDemand.speed ∧
        ∃ ref, s.follower.stallRef = some ref ∧ h ≤ ref + 1 ∧ ref ≤ h + 1 := by
  have hcreep : creepSpeed s = c.fields.vCreep.toNat := by simp [creepSpeed, hc]
  rw [stallCounts, hcreep]
  cases s.follower.stallRef with
  | none => simp
  | some ref => simp [stallMovement, heightGap_le_iff, and_assoc]

theorem stallCheck_of_disarmed {s : State} (harmed : s.checks.stallArmed = false) (h : Nat) :
    stallCheck h s = s := by
  simp [stallCheck, harmed]

/-- A sample that does not count takes the reference anew. -/
theorem stallCheck_of_not_counts {h : Nat} {s : State} (harmed : s.checks.stallArmed = true)
    (hnot : ¬stallCounts h s = true) :
    stallCheck h s =
      { s with follower := { s.follower with stallRef := some h, stallCounter := 0 } } := by
  simp only [stallCheck, stallDue, harmed, hnot, Bool.not_true, Bool.false_and, Bool.false_eq_true,
    if_false]
  rfl

/-- The 150th sample that counts reports (R134). -/
theorem stallCheck_of_due {h : Nat} {s : State} (harmed : s.checks.stallArmed = true)
    (hdue : stallDue h s = true) :
    stallCheck h s =
      report .stall
        { s with follower := { s.follower with stallRef := some h, stallCounter := 0 } } := by
  simp only [stallCheck, harmed, hdue, Bool.not_true, Bool.false_eq_true, if_false, if_true]
  rfl

theorem stallCheck_of_not_due {h : Nat} {s : State} (harmed : s.checks.stallArmed = true)
    (hcounts : stallCounts h s = true) (hdue : ¬stallDue h s = true) :
    stallCheck h s =
      { s with follower := { s.follower with stallCounter := s.follower.stallCounter + 1 } } := by
  simp only [stallCheck, harmed, hcounts, hdue, Bool.not_true, Bool.false_eq_true, if_false,
    if_true]
  rfl

/-! ### The wrong-direction check (R135) -/

/-- The height `h` lies `n` or more behind `x` in the direction watched. -/
def Direction.behind (d : Direction) (n h x : Nat) : Prop :=
  match d with
  | .up => h + n ≤ x
  | .down => x + n ≤ h

theorem wrongDirectionCheck_of_unwatched {s : State} (hw : s.checks.watched = none) (h : Nat) :
    wrongDirectionCheck h s = s :=
  wrongDirectionCheck_eq_self (by simp [wrongDirectionDue, hw]) (by simp [extremeAfter, hw])

theorem wrongDirectionCheck_of_not_due {h : Nat} {s : State}
    (hdue : wrongDirectionDue h s = false) :
    wrongDirectionCheck h s =
      { s with checks := { s.checks with extreme := extremeAfter h s.checks } } := by
  rw [wrongDirectionCheck, hdue]
  rfl

/-- The first sample of a watch sets the extreme. -/
theorem wrongDirectionCheck_first {s : State} (hw : s.checks.watched ≠ none)
    (hx : s.checks.extreme = none) (h : Nat) :
    wrongDirectionCheck h s = { s with checks := { s.checks with extreme := some h } } := by
  obtain ⟨d, hd⟩ := Option.ne_none_iff_exists'.1 hw
  have hafter : extremeAfter h s.checks = some h := by cases d <;> simp [extremeAfter, hd, hx]
  have hdue : wrongDirectionDue h s = false := by
    rw [← Bool.not_eq_true, wrongDirectionDue_iff]
    simp [hx]
  rw [wrongDirectionCheck_of_not_due hdue, hafter]

theorem wrongDirectionDue_iff_behind {s : State} {d : Direction} {x : Nat}
    (hw : s.checks.watched = some d) (hx : s.checks.extreme = some x) (h : Nat) :
    wrongDirectionDue h s = true ↔ d.behind 4 h x := by
  cases d <;>
    simp only [wrongDirectionDue, hw, hx, wrongWay, Direction.behind, decide_eq_true_eq]

theorem extremeAfter_of_extreme {b : CheckBlock} {d : Direction} {x : Nat}
    (hw : b.watched = some d) (hx : b.extreme = some x) (h : Nat) :
    (d.behind 1 x h → extremeAfter h b = some h) ∧
      (d.behind 0 h x → extremeAfter h b = some x) := by
  cases d <;> simp only [extremeAfter, hw, hx, Direction.behind, Option.some_inj] <;> omega

/-- Against the extreme, a height ahead of it becomes the extreme, one less than 4 behind it changes
nothing, and any other reports. -/
theorem wrongDirectionCheck_of_extreme {s : State} {d : Direction} {x : Nat}
    (hw : s.checks.watched = some d) (hx : s.checks.extreme = some x) (h : Nat) :
    (d.behind 1 x h →
      wrongDirectionCheck h s = { s with checks := { s.checks with extreme := some h } }) ∧
    (d.behind 0 h x → ¬d.behind 4 h x → wrongDirectionCheck h s = s) ∧
    (d.behind 4 h x → wrongDirectionCheck h s = report .wrongDirection s) := by
  have hdue := wrongDirectionDue_iff_behind hw hx h
  obtain ⟨hahead, hlevel⟩ := extremeAfter_of_extreme hw hx h
  have hnot (hnear : ¬d.behind 4 h x) : wrongDirectionDue h s = false :=
    Bool.eq_false_iff.2 (mt hdue.1 hnear)
  refine ⟨fun hmoved => ?_, fun hheld hnear => ?_, fun hfar => if_pos (hdue.2 hfar)⟩
  · have hnear : ¬d.behind 4 h x := by
      cases d <;> simp only [Direction.behind] at hmoved ⊢ <;> omega
    rw [wrongDirectionCheck_of_not_due (hnot hnear), hahead hmoved]
  · exact wrongDirectionCheck_eq_self (hnot hnear) ((hlevel hheld).trans hx.symm)

/-! ### A sample and "brake set" together (R134, R135; log 29) -/

section

variable {brake : BrakeOrder} {start s : State}

/-- Where no "brake set" comes before the sample, both checks take it as it stands. -/
theorem takes_of_brakeSetFirst (h : Nat)
    (hfirst : brake = .brakeSetFirst ∨ start.drive.state = .stopped ∨
      s.phases.phase = start.phases.phase) :
    takeStall brake start h s = stallCheck h s ∧
      takeWrongDirection brake start h s = wrongDirectionCheck h s := by
  have horder : brake = .brakeSetFirst ∨ brakeSetSince start s = false := by
    rw [← Bool.not_eq_true, brakeSetSince_iff]
    tauto
  exact ⟨takeCheck_eq_check horder _ _ _, takeCheck_eq_check horder _ _ _⟩

/-- A sample overtaken by "brake set" reports what was due at it, and nothing else. -/
theorem takeCheck_of_sampleFirst (hbrake : brake ≠ .brakeSetFirst)
    (hset : brakeSetSince start s = true) {due : State → Bool} {isDue : Prop}
    (hdue : isDue ↔ due (asHanded brake start s) = true) (cause : Cause) (check : State → State) :
    (isDue → takeCheck brake start due cause check s = report cause s) ∧
      (¬isDue → takeCheck brake start due cause check s = s) := by
  rw [takeCheck_eq_report hbrake hset, hdue]
  exact ⟨fun h => if_pos h, fun h => if_neg h⟩

end

/-! ### The drift check (R137) and the three together (R131) -/

theorem driftCheck_of_none {s : State} (hr : s.checks.driftRef = none) (h : Nat) :
    driftCheck h s = s := by
  rw [driftCheck, hr]

theorem driftCheck_of_some {s : State} {c : ConfigValues} (hc : s.store.active = some c)
    {ref : Nat} (hr : s.checks.driftRef = some ref) (h : Nat) :
    driftCheck h s =
      if h ≤ ref + c.tol.driftLimit.toNat ∧ ref ≤ h + c.tol.driftLimit.toNat then s
      else report .drift s := by
  have hlimit : driftLimit s = c.tol.driftLimit.toNat := by simp [driftLimit, hc]
  rw [driftCheck, hr]
  simp only [hlimit, ← Nat.not_le, heightGap_le_iff, ite_not]

theorem checkMotion_of_invalid (order : SampleOrder) (start s : State) :
    checkMotion false order start s = s := by
  unfold checkMotion
  split
  next hvalid _ => cases hvalid
  next => rfl

theorem checkMotion_of_valid {s : State} {h : Nat} (hh : s.sensors.height = some h)
    (order : SampleOrder) (start : State) :
    checkMotion true order start s =
      driftCheck h
        (if order.stallFirst then
          takeWrongDirection order.brake start h (takeStall order.brake start h s)
        else takeStall order.brake start h (takeWrongDirection order.brake start h s)) := by
  simp only [checkMotion, hh]

/-- Settles O29: the operand's order first, then each check by its own equations. -/
theorem motionChecksByTable : Obligations.MotionChecksByTable := by
  unfold Obligations.MotionChecksByTable
  intro s c h hc
  refine ⟨fun order start => ⟨checkMotion_of_invalid order start s, fun hh => ?order⟩,
    fun brake start => ⟨takes_of_brakeSetFirst h, ?overtaken⟩,
    fun harmed => stallCheck_of_disarmed harmed h, fun harmed => ?stall,
    fun hw => wrongDirectionCheck_of_unwatched hw h,
    fun hw hx => wrongDirectionCheck_first hw hx h, fun x hx => ?wrongDirection,
    fun hr => driftCheck_of_none hr h, fun ref hr => ?drift⟩
  case order =>
    rw [checkMotion_of_valid hh]
    exact ⟨fun hstall => by rw [if_pos hstall], fun hwrong => by rw [hwrong]; rfl⟩
  case overtaken =>
    intro hbrake hmoving hphase demand stalled wrongWay hdemand hstalled hwrongWay
    subst hdemand
    have hset : brakeSetSince start s = true := (brakeSetSince_iff start s).2 ⟨hmoving, hphase⟩
    have hstallDue := stallDue_iff (s := asHanded brake start s) hc h
    have hwrongDue := wrongDirectionDue_iff h (asHanded brake start s)
    obtain ⟨hstall, hnoStall⟩ :=
      takeCheck_of_sampleFirst hbrake hset (hstalled.trans hstallDue.symm) .stall (stallCheck h)
    obtain ⟨hwrong, hnoWrong⟩ :=
      takeCheck_of_sampleFirst hbrake hset (hwrongWay.trans hwrongDue.symm) .wrongDirection
        (wrongDirectionCheck h)
    exact ⟨hstall, hnoStall, hwrong, hnoWrong⟩
  case stall =>
    refine ⟨fun hidle => stallCheck_of_not_counts harmed ?_, fun ref href hcreep =>
      ⟨fun hmoved => stallCheck_of_not_counts harmed ?_, fun habove hbelow => ?_⟩⟩
    · rw [stallCounts_iff hc]
      rintro ⟨-, hcreep, ref, href, -⟩
      rcases hidle with hnone | hslow
      · cases hnone.symm.trans href
      · exact Nat.not_le.2 hslow hcreep
    · rw [stallCounts_iff hc]
      rintro ⟨-, -, ref', href', habove, hbelow⟩
      cases href.symm.trans href'
      omega
    · have hcounts := (stallCounts_iff hc h).2 ⟨harmed, hcreep, ref, href, habove, hbelow⟩
      refine ⟨fun hcount => stallCheck_of_not_due harmed hcounts ?_, fun hcount =>
        stallCheck_of_due harmed
          ((stallDue_iff hc h).2 ⟨harmed, hcreep, hcount, ref, href, habove, hbelow⟩)⟩
      rw [stallDue_iff hc]
      rintro ⟨-, -, hreached, -⟩
      omega
  case wrongDirection =>
    refine ⟨fun hup => ?_, fun hdown => ?_⟩
    · obtain ⟨hahead, hlevel, hbehind⟩ := wrongDirectionCheck_of_extreme hup hx h
      exact ⟨hahead, fun hnot hnear => hlevel hnot (Nat.not_le.2 hnear), hbehind⟩
    · obtain ⟨hahead, hlevel, hbehind⟩ := wrongDirectionCheck_of_extreme hdown hx h
      exact ⟨hahead, fun hnot hnear => hlevel hnot (Nat.not_le.2 hnear), hbehind⟩
  case drift =>
    rw [driftCheck_of_some hc hr]
    exact ⟨fun hlow hhigh => if_pos ⟨hhigh, hlow⟩, fun hfar => if_neg (by omega)⟩

end Sys2Proof.Machine

/-! ## Guard lines: proofs of the family's statements -/

namespace Sys2Proof.Machine

/-! ### The latches and the causes of the guard lines (R139, R141) -/

theorem guardCause_inj {i j : Fin 8} : guardCause i = guardCause j ↔ i = j := by
  rw [← Cause.guardLine_eq_some_iff, Cause.guardLine_guardCause, Option.some_inj, eq_comm]

theorem setPending_latch (i j : Fin 8) (s : State) :
    (setPending i s).guards.pending.getLsbD j.val =
      if j = i then true else s.guards.pending.getLsbD j.val := setBit8_getLsbD _ i j true

theorem setLevel_level (i j : Fin 8) (level : Bool) (s : State) :
    (setLevel i level s).guards.levels.getLsbD j.val =
      if j = i then level else s.guards.levels.getLsbD j.val := setBit8_getLsbD _ i j level

/-- A report that is heard holds its cause in the list (R120). -/
theorem mem_report_causes {s : State} (hp : s.phases.phase.dropsReports = false)
    (cause c : Cause) :
    c ∈ (report cause s).phases.causes ↔ c = cause ∨ c ∈ s.phases.causes := by
  by_cases hknown : cause ∈ s.phases.causes
  · rw [report_of_known hknown]
    exact ⟨Or.inr, fun h => h.elim (fun heq => heq ▸ hknown) id⟩
  · obtain ⟨hcauses, -⟩ := report_of_new hp hknown
    rw [hcauses, List.mem_append, List.mem_singleton, or_comm]

/-- A report that is heard leaves the column in a phase that hears reports (R64). -/
theorem report_dropsReports {s : State} (hp : s.phases.phase.dropsReports = false)
    (cause : Cause) : (report cause s).phases.phase.dropsReports = false := by
  rcases report_eq_self_or_halted cause s with h | h
  · rwa [h]
  · rw [h]
    rfl

/-- The part as a guard line's report finds it: with G0's ESTOP request made (R146). -/
def State.afterStopRequest (s : State) (i : Fin 8) : State := if i = 0 then requestEstop s else s

theorem reportGuard_eq (i : Fin 8) (s : State) :
    reportGuard i s = report (guardCause i) (s.afterStopRequest i) := rfl

@[simp] theorem afterStopRequest_phases (s : State) (i : Fin 8) :
    (s.afterStopRequest i).phases = s.phases := by
  unfold State.afterStopRequest
  split <;> simp

@[simp] theorem afterStopRequest_drive (s : State) (i : Fin 8) :
    (s.afterStopRequest i).drive = s.drive := by
  unfold State.afterStopRequest
  split <;> simp

theorem requestCommand_setGuards (kind : CommandKind) (arg : Word) (s : State) (x : GuardBlock) :
    requestCommand kind arg (s.setGuards x) = (requestCommand kind arg s).setGuards x := by
  unfold requestCommand
  rw [State.setGuards_line]
  split
  · rfl
  · split <;> rfl

theorem requestCommand_rxQueue (kind : CommandKind) (arg : Word) (s : State) :
    (requestCommand kind arg s).line.rxQueue = s.line.rxQueue := by
  unfold requestCommand
  split
  · rfl
  · split <;> rfl

/-- The ESTOP request is made of the command queue and reads no guard line (R146, R162). -/
theorem afterStopRequest_queues (s : State) (i : Fin 8) (x : GuardBlock) :
    ((s.setGuards x).afterStopRequest i).line.queue =
        (if i = 0 then (requestCommand .estop 0#16 s).line.queue else s.line.queue) ∧
      ((s.setGuards x).afterStopRequest i).line.rxQueue = s.line.rxQueue := by
  unfold State.afterStopRequest requestEstop
  split
  · rw [requestCommand_setGuards]
    exact ⟨rfl, requestCommand_rxQueue _ _ s⟩
  · exact ⟨rfl, rfl⟩

/-- A guard line's report joins its own cause to the list and no other guard line's. -/
theorem mem_reportGuard_causes {s : State} (hp : s.phases.phase.dropsReports = false)
    (i j : Fin 8) :
    guardCause j ∈ (reportGuard i s).phases.causes ↔ j = i ∨ guardCause j ∈ s.phases.causes := by
  rw [reportGuard_eq, mem_report_causes (by rwa [afterStopRequest_phases]), guardCause_inj,
    afterStopRequest_phases]

theorem reportGuard_dropsReports {s : State} (hp : s.phases.phase.dropsReports = false)
    (i : Fin 8) : (reportGuard i s).phases.phase.dropsReports = false := by
  rw [reportGuard_eq]
  exact report_dropsReports (by rwa [afterStopRequest_phases]) _

/-! ### A taken change of a line, by phase (R139 to R142, R147) -/

/-- From LISTEN on an active edge of another line than G2 latches and reports (R141). -/
theorem guardEdge_of_heard {s : State} {i : Fin 8} (hi : i ≠ 2)
    (hp : s.phases.phase.dropsReports = false) :
    guardEdge i s = reportGuard i (setPending i s) := by
  rw [guardEdge, if_neg hi]
  split
  case h_1 h | h_2 h => simp [h, Phase.dropsReports] at hp
  all_goals rfl

/-- In INIT the latch alone keeps it (R142). -/
theorem guardEdge_of_init {s : State} {i : Fin 8} (hi : i ≠ 2) (hp : s.phases.phase = .init) :
    guardEdge i s = setPending i s := by
  rw [guardEdge, if_neg hi, hp]

theorem bottomEdge_of_other {s : State} (hr : s.phases.phase ≠ .retract)
    (hl : ¬(s.phases.phase = .lower ∧ s.sensors.contact = true)) : bottomEdge s = s := by
  unfold bottomEdge
  split
  case h_1 h => exact absurd h hr
  case h_2 h => exact if_neg fun hcontact => hl ⟨h, hcontact⟩
  all_goals rfl

/-- In UNCONFIGURED an edge does nothing more (R142). -/
theorem guardEdge_of_unconfigured {s : State} (hp : s.phases.phase = .unconfigured) (i : Fin 8) :
    guardEdge i s = s := by
  unfold guardEdge
  split
  · exact bottomEdge_of_other (by simp [hp]) (by simp [hp])
  · simp only [hp]

theorem bottomEdge_of_retract {s : State} (hp : s.phases.phase = .retract) :
    bottomEdge s = changePhase .ready s := by rw [bottomEdge, hp]

/-- The bottom switch reached with the load on is reported like any other line (R147). -/
theorem bottomEdge_of_loaded {s : State} (hp : s.phases.phase = .lower)
    (hcontact : s.sensors.contact = true) : bottomEdge s = reportGuard 2 (setPending 2 s) := by
  simp only [bottomEdge, hp, hcontact, if_true]
  rfl

/-- A taken change to the active level moves the level, and an enabled line acts (R139, R140). -/
theorem exec_guardActiveEdge {s : State} {c : ConfigValues} {i : Fin 8} {level : Bool}
    (hfree : s.held = false) (hc : s.store.active = some c)
    (hpol : c.fields.guardPolarity.getLsbD i.val = level)
    (hlevel : s.guards.levels.getLsbD i.val ≠ level) :
    exec (.guardActiveEdge i) s =
      .next
        (if c.fields.guardEnable.getLsbD i.val then guardEdge i (setLevel i level s)
        else setLevel i level s) := by
  subst hpol
  refine (running_of_free hfree).trans (congrArg _ ?_)
  rw [activeEdge, hc]
  exact if_neg hlevel

theorem exec_guardActiveEdge_of_enabled {s : State} {c : ConfigValues} {i : Fin 8} {level : Bool}
    (hfree : s.held = false) (hc : s.store.active = some c)
    (henabled : c.fields.guardEnable.getLsbD i.val = true)
    (hpol : c.fields.guardPolarity.getLsbD i.val = level)
    (hlevel : s.guards.levels.getLsbD i.val ≠ level) :
    exec (.guardActiveEdge i) s = .next (guardEdge i (setLevel i level s)) := by
  rw [exec_guardActiveEdge hfree hc hpol hlevel, if_pos henabled]

/-- A taken change to the inactive level moves the level alone (R141). -/
theorem exec_guardInactiveEdge {s : State} {c : ConfigValues} {i : Fin 8} {level : Bool}
    (hfree : s.held = false) (hc : s.store.active = some c)
    (hpol : c.fields.guardPolarity.getLsbD i.val = level) :
    exec (.guardInactiveEdge i) s = .next (setLevel i (!level) s) := by
  subst hpol
  refine (running_of_free hfree).trans (congrArg _ ?_)
  rw [inactiveEdge, hc]
  rfl

/-- Without a configuration an active edge is no event, and an inactive one toggles the level
(log 19). -/
theorem exec_guardEdges_of_none {s : State} (hfree : s.held = false) (hc : s.store.active = none)
    (i : Fin 8) :
    exec (.guardActiveEdge i) s = .next s ∧
      exec (.guardInactiveEdge i) s = .next (setLevel i (!s.guards.levels.getLsbD i.val) s) := by
  refine ⟨(running_of_free hfree).trans (congrArg _ ?_),
    (running_of_free hfree).trans (congrArg _ ?_)⟩
  · rw [activeEdge, hc]
  · rw [inactiveEdge, hc]

/-- The part with line `i` taken to `level` and its latch set. -/
def State.latching (s : State) (i : Fin 8) (level : Bool) : State :=
  Machine.setPending i (setLevel i level s)

theorem latching_level (s : State) (i j : Fin 8) (level : Bool) :
    (s.latching i level).guards.levels.getLsbD j.val =
      if j = i then level else s.guards.levels.getLsbD j.val := setLevel_level i j level s

theorem latching_latch (s : State) (i j : Fin 8) (level : Bool) :
    (s.latching i level).guards.pending.getLsbD j.val =
      if j = i then true else s.guards.pending.getLsbD j.val := setPending_latch i j _

/-- What an edge that is heard leaves behind the report of its line. -/
theorem reportGuard_latching {s : State} {i : Fin 8} (hx : s.haltExact)
    (hinit : s.phases.phase ≠ .init) (hun : s.phases.phase ≠ .unconfigured) (level : Bool) :
    (reportGuard i (s.latching i level)).phases.causes = s.causesWith (guardCause i) ∧
      (reportGuard i (s.latching i level)).phases.phase = .halted ∧
      (reportGuard i (s.latching i level)).drive = driveAfter s.phases.phase .halted s.drive := by
  have hphases : ((s.latching i level).afterStopRequest i).phases = s.phases :=
    afterStopRequest_phases _ i
  have hux : ((s.latching i level).afterStopRequest i).haltExact := by
    rwa [State.haltExact, hphases]
  rw [reportGuard_eq]
  refine ⟨?_, ?_, ?_⟩
  · rw [report_causes, State.causesWith, State.causesWith, hphases]
  · rw [report_phase _ _ hux, State.phaseWithCause, hphases, if_neg (not_or.2 ⟨hinit, hun⟩)]
  · rw [report_drive _ _ hux (by rwa [hphases]) (by rwa [hphases]), hphases,
      afterStopRequest_drive]
    rfl

/-- The queues and the progress of the phases behind it (R146). -/
theorem reportGuard_latching_frame (s : State) (i : Fin 8) (level : Bool) :
    s.kept (reportGuard i (s.latching i level)) ∧
      (reportGuard i (s.latching i level)).line.queue =
        (if i = 0 then (requestCommand .estop 0#16 s).line.queue else s.line.queue) ∧
      (reportGuard i (s.latching i level)).line.rxQueue = s.line.rxQueue := by
  have hkept := report_kept ((s.latching i level).afterStopRequest i) (guardCause i)
  obtain ⟨hqueue, hrx⟩ := afterStopRequest_queues s i (s.latching i level).guards
  obtain ⟨-, -, -, -, -, -, -, -, -, -, -, -, -, -, -, -, hqueue', hrx', -⟩ :=
    report_onlyPhaseMoved ((s.latching i level).afterStopRequest i) (guardCause i)
  rw [State.kept, afterStopRequest_phases] at hkept
  exact ⟨hkept, hqueue'.trans hqueue, hrx'.trans hrx⟩

/-- Settles O16: the edge is the level, the latch, G0's request and the report, in that order. -/
theorem guardEdgeLatchesCause : Obligations.GuardEdgeLatchesCause := by
  unfold Obligations.GuardEdgeLatchesCause
  intro s c i hfree hx hc hi henabled hlevel hinit hun
  generalize hpol : c.fields.guardPolarity.getLsbD i.val = level at hlevel ⊢
  obtain ⟨hcauses, hphase, hdrive⟩ := reportGuard_latching (i := i) hx hinit hun level
  obtain ⟨hkept, hqueue, hrx⟩ := reportGuard_latching_frame s i level
  refine ⟨reportGuard i (s.latching i level), ?_, fun j => ?_, fun j => ?_, hcauses.trans ?_,
    hphase, hdrive, hqueue, reportGuard_peers _ _, reportGuard_sensors _ _, reportGuard_store _ _, hkept,
    hrx⟩
  · rw [exec_guardActiveEdge_of_enabled hfree hc henabled hpol hlevel]
    exact congrArg _ (guardEdge_of_heard hi (Phase.dropsReports_of_ne hinit hun))
  · rw [reportGuard_guards, latching_level]
  · rw [reportGuard_guards, latching_latch]
  · fin_cases i <;> rfl

/-- Settles O17: without a configuration first, then INIT, and the level alone elsewhere. -/
theorem guardEdgesWithoutReport : Obligations.GuardEdgesWithoutReport := by
  unfold Obligations.GuardEdgesWithoutReport
  intro s i hfree
  refine ⟨fun hc => ?_, fun c hc => ?_⟩
  · obtain ⟨hactive, hinactive⟩ := exec_guardEdges_of_none hfree hc i
    exact ⟨hactive, _, fun j => setLevel_level i j _ s, rfl, hinactive⟩
  generalize hpol : c.fields.guardPolarity.getLsbD i.val = level
  refine ⟨(s.latching i level).guards, (setLevel i (!level) s).guards,
    fun j => latching_level s i j level, fun j => setLevel_level i j (!level) s, rfl,
    exec_guardInactiveEdge hfree hc hpol, fun hlevel => ⟨?init, fun hmute => ?levelAlone⟩⟩
  case init =>
    rintro ⟨henabled, hi, hp⟩
    refine ⟨fun j => latching_latch s i j level, ?_⟩
    rw [exec_guardActiveEdge_of_enabled hfree hc henabled hpol hlevel]
    exact congrArg _ (guardEdge_of_init hi hp)
  case levelAlone =>
    rw [exec_guardActiveEdge hfree hc hpol hlevel]
    rcases hmute with hdisabled | hp
    · rw [hdisabled]
      rfl
    · rw [guardEdge_of_unconfigured (s := setLevel i level s) hp, ite_self]
      rfl

/-- What a change of phase leaves of the guard lines as they stand behind it. -/
theorem onlyPhaseMoved_of_setGuards {s t : State} {g : GuardBlock}
    (h : (s.setGuards g).onlyPhaseMoved t) : { s with guards := t.guards }.onlyPhaseMoved t := by
  have ⟨_, _, _, hguards, _⟩ := h
  rw [hguards]
  exact h

/-- Settles O18: RETRACT is a change of phase, LOWER with the load on a report, and elsewhere the
level moves alone. -/
theorem bottomEdgeActsByPhase : Obligations.BottomEdgeActsByPhase := by
  unfold Obligations.BottomEdgeActsByPhase
  intro s c hfree hx hc henabled hlevel
  generalize hpol : c.fields.guardPolarity.getLsbD 2 = level at hlevel ⊢
  have hedge : exec (.guardActiveEdge 2) s = .next (bottomEdge (setLevel 2 level s)) :=
    exec_guardActiveEdge_of_enabled (i := 2) hfree hc henabled hpol hlevel
  have hlevels (j : Fin 8) := setLevel_level 2 j level s
  have hphases : (setLevel 2 level s).phases = s.phases := rfl
  by_cases hr : s.phases.phase = .retract
  · rw [bottomEdge_of_retract (s := setLevel 2 level s) hr] at hedge
    have hdrive := changePhase_drive_of_ne (setLevel 2 level s) .ready (by simp [hphases, hr])
    rw [hphases, hr] at hdrive
    refine ⟨_, hedge, ?_, fun _ => ⟨changePhase_phase _ _, ?_, changePhase_causes _ _, hdrive,
      onlyPhaseMoved_of_setGuards (changePhase_onlyPhaseMoved _ _)⟩,
      fun hl => absurd (hr.symm.trans hl) (by decide), fun hne => absurd hr hne⟩
    · rwa [changePhase_guards]
    · rw [changePhase_guards]
      rfl
  by_cases hl : s.phases.phase = .lower ∧ s.sensors.contact = true
  · obtain ⟨hp, hcontact⟩ := hl
    rw [bottomEdge_of_loaded (s := setLevel 2 level s) hp hcontact] at hedge
    obtain ⟨hcauses, hphase, hdrive⟩ :=
      reportGuard_latching (i := 2) hx (by simp [hp]) (by simp [hp]) level
    have hnil := causes_eq_nil_of_haltExact hx (by simp [hp])
    rw [hp] at hdrive
    refine ⟨_, hedge, ?_, fun h => absurd h hr, fun _ _ => ⟨hphase, ?_, hcauses.trans ?_, hdrive,
      onlyPhaseMoved_of_setGuards (report_onlyPhaseMoved (s.latching 2 level) _)⟩,
      fun _ hne => absurd ⟨hp, hcontact⟩ hne⟩
    · rwa [reportGuard_guards]
    · rw [reportGuard_guards]
      exact fun j => latching_latch s 2 j level
    · simp [State.causesWith, hnil, hp, guardCause]
  · rw [bottomEdge_of_other (s := setLevel 2 level s) hr hl] at hedge
    exact ⟨_, hedge, hlevels, fun h => absurd h hr, fun hp hcontact => absurd ⟨hp, hcontact⟩ hl,
      fun _ _ => rfl⟩

end Sys2Proof.Machine

namespace Sys2Proof.Machine

/-! ### Latches and causes in agreement

The agreement survives the exit from INIT because nothing is latched as a cause there: with that,
which an exact halt gives, the invariant carries itself from step to step. -/

/-- The latches agree with the causes, and in INIT no cause is latched. -/
def State.latched (s : State) : Prop :=
  s.latchesAgree ∧ (s.phases.phase = .init → s.phases.causes = [])

theorem latched_of_haltExact {s : State} (h : s.latchesAgree) (hx : s.haltExact) : s.latched :=
  ⟨h, fun hp => causes_eq_nil_of_haltExact hx (by simp [hp])⟩

/-- Where reports are heard, the agreement of each line is all there is to show. -/
theorem latched_of_heard {s : State} (hp : s.phases.phase.dropsReports = false)
    (h : ∀ i : Fin 8, s.guards.pending.getLsbD i.val = true ↔ guardCause i ∈ s.phases.causes) :
    s.latched := by
  have hinit : s.phases.phase ≠ .init := fun hinit => by simp [hinit, Phase.dropsReports] at hp
  exact ⟨fun i => ⟨fun _ _ => h i, fun hi => absurd hi hinit⟩, fun hi => absurd hi hinit⟩

theorem latched_of_unconfigured {s : State} (hp : s.phases.phase = .unconfigured) : s.latched :=
  ⟨fun _ => ⟨fun _ hne => absurd hp hne, fun hi => absurd (hp.symm.trans hi) (by decide)⟩,
    fun hi => absurd (hp.symm.trans hi) (by decide)⟩

theorem State.latched.latch_iff {s : State} (h : s.latched)
    (hp : s.phases.phase.dropsReports = false) (i : Fin 8) :
    s.guards.pending.getLsbD i.val = true ↔ guardCause i ∈ s.phases.causes := by
  obtain ⟨hagree, -⟩ := h
  obtain ⟨hheard, -⟩ := hagree i
  exact hheard (fun hi => by simp [hi, Phase.dropsReports] at hp)
    (fun hu => by simp [hu, Phase.dropsReports] at hp)

theorem State.latched.enabled_of_latch {s : State} (h : s.latched) (hp : s.phases.phase = .init)
    {c : ConfigValues} (hc : s.store.active = some c) {i : Fin 8}
    (hlatch : s.guards.pending.getLsbD i.val = true) :
    c.fields.guardEnable.getLsbD i.val = true := by
  obtain ⟨hagree, -⟩ := h
  obtain ⟨-, hinit⟩ := hagree i
  obtain ⟨-, henabled⟩ := hinit hp hlatch
  rwa [hc] at henabled

theorem latched_ite {p : Prop} [Decidable p] {a b : State} (ha : a.latched) (hb : b.latched) :
    (if p then a else b).latched := by
  split <;> assumption

theorem latched_foldl {α : Type} {f : State → α → State}
    (hf : ∀ (s : State) (a : α), s.latched → (f s a).latched) (l : List α) {s : State}
    (h : s.latched) : (l.foldl f s).latched :=
  List.foldlRecOn (motive := State.latched) l f h fun s hs a _ => hf s a hs

/-- What writes neither the phase block, the latches nor the configuration. -/
theorem latched_of_frame {s t : State} (h : s.latched) (hphases : t.phases = s.phases)
    (hguards : t.guards = s.guards) (hstore : t.store = s.store) : t.latched := by
  rwa [State.latched, State.latchesAgree, hphases, hguards, hstore]

theorem fillSlot_latched {s : State} (h : s.latched) : (fillSlot s).latched := h

/-! ### What moves the phase, the causes or the latches -/

/-- A change between two phases that hear reports. -/
theorem changePhase_latched {s : State} (h : s.latched) (hp : s.phases.phase.dropsReports = false)
    {new : Phase} (hnew : new.dropsReports = false) : (changePhase new s).latched := by
  refine latched_of_heard (by rwa [changePhase_phase]) fun i => ?_
  rw [changePhase_guards, changePhase_causes, h.latch_iff hp]

/-- A report of no guard line's cause. -/
theorem report_latched {s : State} (h : s.latched) {cause : Cause}
    (hcause : cause.guardLine = none) : (report cause s).latched := by
  by_cases hd : s.phases.phase.dropsReports = true
  · rwa [report_of_dropped hd]
  have hp := Bool.eq_false_iff.2 hd
  refine latched_of_heard (report_dropsReports hp cause) fun i => ?_
  have hne : guardCause i ≠ cause := fun heq => by
    simp [Cause.guardLine_eq_some_iff.2 heq] at hcause
  rw [report_guards, h.latch_iff hp, mem_report_causes hp, or_iff_right hne]

theorem reportGuard_setPending_latch (i j : Fin 8) (s : State) :
    (reportGuard i (setPending i s)).guards.pending.getLsbD j.val =
      if j = i then true else s.guards.pending.getLsbD j.val := by
  rw [reportGuard_guards, setPending_latch]

theorem mem_reportGuard_setPending_causes {s : State}
    (hp : s.phases.phase.dropsReports = false) (i j : Fin 8) :
    guardCause j ∈ (reportGuard i (setPending i s)).phases.causes ↔
      j = i ∨ guardCause j ∈ s.phases.causes :=
  mem_reportGuard_causes (s := setPending i s) hp i j

/-- A guard line's report finds its latch set. -/
theorem reportGuard_setPending_latched {s : State} (h : s.latched)
    (hp : s.phases.phase.dropsReports = false) (i : Fin 8) :
    (reportGuard i (setPending i s)).latched := by
  refine latched_of_heard (reportGuard_dropsReports (s := setPending i s) hp i) fun j => ?_
  rw [reportGuard_setPending_latch, mem_reportGuard_setPending_causes hp]
  split
  next hj => simp [hj]
  next hj => rw [h.latch_iff hp, or_iff_right hj]

theorem latchPeerHalt_latched {s : State} (h : s.latched)
    (hp : s.phases.phase.dropsReports = false) (station : Nat) :
    (latchPeerHalt station s).latched := by
  cases ho : s.phases.origin with
  | some n => rwa [latchPeerHalt_of_held (by simp [ho])]
  | none =>
    obtain ⟨-, hphase, hcauses, -⟩ := latchPeerHalt_of_none ho station
    refine latched_of_heard (by rw [hphase]; rfl) fun i => ?_
    rw [latchPeerHalt_guards, hcauses, h.latch_iff hp]

theorem bottomEdge_latched {s : State} (h : s.latched) : (bottomEdge s).latched := by
  by_cases hr : s.phases.phase = .retract
  · rw [bottomEdge_of_retract hr]
    exact changePhase_latched h (by rw [hr]; rfl) rfl
  by_cases hl : s.phases.phase = .lower ∧ s.sensors.contact = true
  · obtain ⟨hp, hcontact⟩ := hl
    rw [bottomEdge_of_loaded hp hcontact]
    exact reportGuard_setPending_latched h (by rw [hp]; rfl) 2
  · rwa [bottomEdge_of_other hr hl]

/-- A latch set in INIT alone, on an enabled line (R142). -/
theorem setPending_latched_of_init {s : State} {c : ConfigValues} {i : Fin 8} (h : s.latched)
    (hc : s.store.active = some c) (henabled : c.guardEnabled i = true) (hi : i ≠ 2)
    (hp : s.phases.phase = .init) : (setPending i s).latched := by
  obtain ⟨hagree, hnil⟩ := h
  refine ⟨fun j => ⟨fun hne => absurd hp hne, fun _ hlatch => ?_⟩, hnil⟩
  obtain ⟨-, hinit⟩ := hagree j
  rw [setPending_latch] at hlatch
  split at hlatch
  next hj =>
    rw [hj, setPending_store, hc]
    exact ⟨hi, henabled⟩
  next => exact hinit hp hlatch

/-- An edge sets a latch with its report, and in INIT alone for an enabled line (R141, R142). -/
theorem guardEdge_latched {s : State} {c : ConfigValues} {i : Fin 8} (h : s.latched)
    (hc : s.store.active = some c) (henabled : c.guardEnabled i = true) :
    (guardEdge i s).latched := by
  by_cases hi : i = 2
  · rw [guardEdge, if_pos hi]
    exact bottomEdge_latched h
  by_cases hp : s.phases.phase = .init
  · rw [guardEdge_of_init hi hp]
    exact setPending_latched_of_init h hc henabled hi hp
  by_cases hu : s.phases.phase = .unconfigured
  · rwa [guardEdge_of_unconfigured hu]
  · have hheard := Phase.dropsReports_of_ne hp hu
    rw [guardEdge_of_heard hi hheard]
    exact reportGuard_setPending_latched h hheard i

/-! ### The exit from INIT (R144) -/

/-- Between the pseudo-edges of R144: a cause in the list has its latch, and a latch has its cause
in the list or its line, an enabled one, still to come. -/
def State.awaits (s : State) (c : ConfigValues) (rest : List (Fin 8)) : Prop :=
  (s.phases.phase = .listen ∨ s.phases.phase = .halted) ∧
    ∀ i : Fin 8,
      (guardCause i ∈ s.phases.causes → s.guards.pending.getLsbD i.val = true) ∧
      (s.guards.pending.getLsbD i.val = true →
        guardCause i ∈ s.phases.causes ∨ (i ∈ rest ∧ c.fields.guardEnable.getLsbD i.val = true))

theorem State.awaits.heard {s : State} {c : ConfigValues} {rest : List (Fin 8)}
    (h : s.awaits c rest) : s.phases.phase.dropsReports = false := by
  obtain ⟨hp | hp, -⟩ := h <;> rw [hp] <;> rfl

theorem lineTaken_eq (c : ConfigValues) (s : State) (i : Fin 8) :
    State.lineTaken c s i =
      if c.fields.guardEnable.getLsbD i.val = true ∧
          (s.guards.pending.getLsbD i.val = true ∨
            (i ≠ 2 ∧ s.guards.levels.getLsbD i.val = c.fields.guardPolarity.getLsbD i.val)) then
        reportGuard i (setPending i s)
      else s := rfl

theorem lineTaken_awaits {s : State} {c : ConfigValues} {i : Fin 8} {rest : List (Fin 8)}
    (h : s.awaits c (i :: rest)) : (State.lineTaken c s i).awaits c rest := by
  have hheard := h.heard
  obtain ⟨hp, hlines⟩ := h
  refine ⟨lineTaken_phase_still c i hp, fun j => ?_⟩
  obtain ⟨hlatch, hcause⟩ := hlines j
  rw [List.mem_cons] at hcause
  rw [lineTaken_eq]
  split
  next =>
    rw [mem_reportGuard_setPending_causes hheard, reportGuard_setPending_latch]
    by_cases hj : j = i
    · simp [hj]
    · simp only [hj, false_or, if_false] at hcause ⊢
      exact ⟨hlatch, hcause⟩
  next hstill =>
    refine ⟨hlatch, fun hset => (hcause hset).imp_right ?_⟩
    rintro ⟨rfl | hrest, henabled⟩
    · exact absurd ⟨henabled, Or.inl hset⟩ hstill
    · exact ⟨hrest, henabled⟩

theorem linesTaken_awaits {c : ConfigValues} (lines : List (Fin 8)) {s : State}
    (h : s.awaits c lines) : (lines.foldl (State.lineTaken c) s).awaits c [] := by
  induction lines generalizing s with
  | nil => exact h
  | cons i rest ih => exact ih (lineTaken_awaits h)

theorem latched_of_awaits_nil {s : State} {c : ConfigValues} (h : s.awaits c []) : s.latched := by
  have hheard := h.heard
  obtain ⟨-, hlines⟩ := h
  refine latched_of_heard hheard fun i => ?_
  obtain ⟨hlatch, hcause⟩ := hlines i
  exact ⟨fun hset => by simpa using hcause hset, hlatch⟩

/-- In INIT a latch is an enabled line's, and every line is taken on the way out. -/
theorem enterListenFromInit_latched {s : State} {c : ConfigValues} (h : s.latched)
    (hp : s.phases.phase = .init) (hc : s.store.active = some c) :
    (enterListenFromInit s).latched := by
  have hall (i : Fin 8) : i ∈ guardLines := by revert i; decide
  have ⟨_, hnil⟩ := h
  have hlisten : (changePhase .listen s).awaits c guardLines := by
    refine ⟨Or.inl (changePhase_phase _ _), fun i => ?_⟩
    rw [changePhase_guards, changePhase_causes, hnil hp]
    exact ⟨fun hmem => absurd hmem List.not_mem_nil,
      fun hlatch => Or.inr ⟨hall i, h.enabled_of_latch hp hc hlatch⟩⟩
  have htaken : (guardLines.foldl pseudoEdge (changePhase .listen s)).latched := by
    rw [pseudoEdges_eq_lineTaken (by rw [changePhase_store, hc]) (Or.inl (changePhase_phase _ _))]
    exact latched_of_awaits_nil (linesTaken_awaits guardLines hlisten)
  unfold enterListenFromInit
  dsimp only
  split
  next hleave =>
    rw [Bool.and_eq_true, decide_eq_true_eq] at hleave
    obtain ⟨hstill, -⟩ := hleave
    exact changePhase_latched htaken (by rw [hstill]; rfl) (by split <;> rfl)
  next => exact htaken

theorem exitInit_latched {s : State} (h : s.latched) (hp : s.phases.phase = .init)
    (atPosition : Bool) : (exitInit atPosition s).latched := by
  unfold exitInit
  split
  next => exact latched_ite (latched_of_unconfigured (changePhase_phase _ _)) h
  next husable =>
    rw [Bool.or_eq_true, not_or, Bool.not_eq_true, Option.isNone_eq_false_iff,
      Option.isSome_iff_exists] at husable
    obtain ⟨⟨c, hc⟩, -⟩ := husable
    exact latched_ite (enterListenFromInit_latched h hp hc) h

/-! ### Acknowledgement and resets (R143, R149) -/

/-- A latch goes exactly with its cause. -/
theorem relieved_latched {s : State} (h : s.latched) : s.relieved.latched := by
  obtain ⟨hagree, hnil⟩ := h
  have hsub := (relieved_causes_sublist s).subset
  rw [State.latched, State.latchesAgree, relieved_phase, relieved_store]
  refine ⟨fun i => ⟨fun hinit hun => ?_, fun hinit hlatch => ?_⟩, fun hinit => ?_⟩
  · obtain ⟨hheard, -⟩ := hagree i
    have hstands := @hsub (guardCause i)
    rw [relieved_latch, Bool.and_eq_true, hheard hinit hun, Bool.not_eq_true',
      decide_eq_false_iff_not]
    tauto
  · obtain ⟨-, hwaiting⟩ := hagree i
    rw [relieved_latch, Bool.and_eq_true] at hlatch
    obtain ⟨hset, -⟩ := hlatch
    exact hwaiting hinit hset
  · exact List.eq_nil_of_subset_nil (hnil hinit ▸ hsub)

theorem exitPhase_dropsReports (s : State) : (exitPhase s).dropsReports = false := by
  unfold exitPhase
  split <;> [split; skip] <;> rfl

theorem acknowledge_latched {s : State} (h : s.latched) : (acknowledge s).latched := by
  have hrelieved := relieved_latched h
  rw [acknowledge_eq]
  refine fillSlot_latched ?_
  split
  next hleave =>
    simp only [Bool.and_eq_true, decide_eq_true_eq] at hleave
    obtain ⟨⟨hhalted, -⟩, -⟩ := hleave
    exact changePhase_latched hrelieved (by rw [hhalted]; rfl) (exitPhase_dropsReports _)
  next => exact hrelieved

theorem resetPart_latched (kind : ResetKind) (inputs : SampledInputs) (s : State) :
    (resetPart kind inputs s).latched :=
  ⟨fun i => ⟨fun hinit => absurd rfl hinit,
    fun _ hlatch => absurd (hlatch.symm.trans (BitVec.getLsbD_zero (i := i.val))) (by decide)⟩,
    fun _ => rfl⟩

end Sys2Proof.Machine

namespace Sys2Proof.Machine

/-! The walk over the commands: `h` says that latches and causes agree before the operation. An
operation that writes other blocks alone leaves `latched` as it reads, and `h` itself closes it. -/

section
variable {s : State} (h : s.latched)
include h

/-! ### Lamps, queues and entries into phases -/

theorem updateBlink_latched : (updateBlink s).latched :=
  latched_of_frame h (updateBlink_phases s) (updateBlink_guards s) (updateBlink_store s)

theorem requestCommand_latched (kind : CommandKind) (arg : Word) :
    (requestCommand kind arg s).latched :=
  latched_of_frame h (requestCommand_phases kind arg s) (requestCommand_guards kind arg s)
    (requestCommand_store kind arg s)

theorem arriveFrame_latched (frame : RxFrame) : (arriveFrame frame s).latched := by
  unfold arriveFrame
  refine latched_ite h ?_
  split
  case h_1 => exact latched_ite h (report_latched h rfl)
  all_goals exact h

theorem evaluateSeating_latched : (evaluateSeating s).latched := by
  unfold evaluateSeating
  split
  next hp =>
    have hcount : (s.setPhases { s.phases with seatedCount := countSeated s.peers }).latched := h
    exact latched_ite
      (changePhase_latched hcount (by rw [State.setPhases_phases, hp]; rfl) rfl) hcount
  next => exact h

theorem enterSeated_latched (hp : s.phases.phase.dropsReports = false) : (enterSeated s).latched :=
  evaluateSeating_latched (changePhase_latched h hp rfl)

theorem arrive_latched (atMark : Bool) : (arrive atMark s).latched := by
  unfold arrive
  split
  case h_1 hp | h_2 hp =>
    have hhold : (changePhase .hold s).latched := changePhase_latched h (by rw [hp]; rfl) rfl
    refine updateBlink_latched ?_
    cases atMark <;> exact hhold
  case h_3 hp => exact changePhase_latched h (by rw [hp]; rfl) rfl
  all_goals exact h

/-! ### Guard lines and resets -/

theorem activeEdge_latched (i : Fin 8) : (activeEdge i s).latched := by
  unfold activeEdge
  split
  next => exact h
  next c hc =>
    have hlevel : (setLevel i (c.guardActiveLevel i) s).latched := h
    refine latched_ite h ?_
    dsimp only
    split
    next henabled => exact guardEdge_latched hlevel hc henabled
    next => exact hlevel

theorem inactiveEdge_latched (i : Fin 8) : (inactiveEdge i s).latched := by
  unfold inactiveEdge
  split <;> exact h

theorem release_latched (kind : ResetKind) (inputs : SampledInputs) :
    (release kind inputs s).latched := latched_ite h (resetPart_latched kind inputs s)

theorem applyReset_latched : (applyReset s).latched := h

/-! ### Time and the timers -/

theorem idleStep_latched : (idleStep s).latched := by
  unfold idleStep
  refine latched_ite h ?_
  split <;> exact h

theorem dwellExpiry_latched : (dwellExpiry s).latched := latched_ite h (latched_ite h h)

theorem settleExpiry_latched : (settleExpiry s).latched := latched_ite h (latched_ite h h)

theorem demandExpiry_latched : (demandExpiry s).latched := by
  have hstopped : (stopDrive (s.setDrive { s.drive with demandTimer := none })).latched :=
    latched_of_frame h (stopDrive_phases _) (stopDrive_guards _) (stopDrive_store _)
  exact latched_ite h (report_latched hstopped rfl)

theorem blinkExpiry_latched : (blinkExpiry s).latched := latched_ite h h

theorem closeWindow_latched : (closeWindow s).latched := latched_ite h h

theorem windowExpiry_latched : (windowExpiry s).latched := by
  have hidle : (s.setStore { s.store with windowTimer := none }).latched := h
  exact latched_ite h (latched_ite hidle (closeWindow_latched hidle))

theorem completeCommit_latched : (completeCommit s).latched := by
  unfold completeCommit
  split <;> exact h

/-! ### Group commands -/

theorem handCommand_latched {kind : CommandKind} {take : Word → State → State}
    (htake : ∀ {u : State}, u.latched → ∀ arg : Word, (take arg u).latched) :
    (handCommand kind take s).latched := by
  unfold handCommand
  split
  next _ _ arg rest _ =>
    have hdropped : (s.afterHanding rest).latched := h
    exact latched_ite (latched_ite (htake hdropped arg) hdropped) h
  next => exact h

theorem takeTarget_latched (arg : Word) : (takeTarget arg s).latched := by
  unfold takeTarget
  exact updateBlink_latched (by exact h)

theorem takeTarget_changePhase_latched {p new : Phase} (hp : s.phases.phase = p)
    (hheard : p.dropsReports = false) (hnew : new.dropsReports = false) (arg : Word) :
    (changePhase new (takeTarget arg s)).latched :=
  changePhase_latched (takeTarget_latched h arg) (by rwa [takeTarget_phase, hp]) hnew

theorem closeWindowOnMotion_latched : (closeWindowOnMotion s).latched :=
  latched_ite h (closeWindow_latched h)

theorem takeRaise_latched (arg : Word) : (takeRaise arg s).latched := by
  have hclosed := closeWindowOnMotion_latched h
  have htaken := takeTarget_latched hclosed arg
  unfold takeRaise
  dsimp only
  split
  case h_1 | h_2 | h_3 | h_4 => exact hclosed
  case h_5 hp => exact takeTarget_changePhase_latched (new := .seek) hclosed hp rfl rfl arg
  case h_6 | h_7 => exact htaken
  case h_8 => exact evaluateSeating_latched htaken
  case h_9 hp | h_10 hp | h_11 hp => exact takeTarget_changePhase_latched hclosed hp rfl rfl arg

theorem takeLower_latched (arg : Word) : (takeLower arg s).latched := by
  have hclosed := closeWindowOnMotion_latched h
  unfold takeLower
  dsimp only
  split
  case h_1 | h_2 | h_3 | h_4 => exact hclosed
  case h_10 | h_11 => exact takeTarget_latched hclosed arg
  case h_5 hp | h_6 hp | h_7 hp | h_8 hp | h_9 hp =>
    exact takeTarget_changePhase_latched hclosed hp rfl rfl arg

theorem takeHold_latched (arg : Word) : (takeHold arg s).latched := by
  unfold takeHold
  split
  case h_7 hp | h_8 hp | h_9 hp | h_10 hp | h_11 hp =>
    exact changePhase_latched h (by rw [hp]; rfl) rfl
  all_goals exact h

theorem takeEstop_latched (arg : Word) : (takeEstop arg s).latched := by
  unfold takeEstop
  split
  case h_1 | h_2 | h_3 => exact h
  all_goals exact report_latched h rfl

theorem takeAck_latched (arg : Word) : (takeAck arg s).latched :=
  latched_ite (acknowledge_latched h) h

theorem takeSetMark_latched (arg : Word) : (takeSetMark arg s).latched := latched_ite h h

theorem takeClearMark_latched (arg : Word) : (takeClearMark arg s).latched :=
  latched_ite (latched_ite h h) h

theorem handUndefined_latched : (handUndefined s).latched := by
  unfold handUndefined
  split
  · exact latched_ite h h
  · exact h

/-! ### The pendant -/

theorem setButton_latched (button : MotionButton) (pressed : Bool) :
    (setButton button pressed s).latched := by
  cases button <;> exact h

theorem actOnPress_latched (button : MotionButton) : (actOnPress button s).latched := by
  have hlocked : (s.setPendant { s.pendant with held := none, lockout := true }).latched := h
  exact latched_ite h
    (latched_ite (requestCommand_latched hlocked _ _) (requestCommand_latched h _ _))

theorem pressMotion_latched (button : MotionButton) : (pressMotion button s).latched := by
  have hpressed := setButton_latched h button true
  exact latched_ite h (latched_ite (actOnPress_latched hpressed button) hpressed)

theorem actOnRelease_latched (button : MotionButton) : (actOnRelease button s).latched :=
  latched_ite (latched_ite h h) (latched_ite (requestCommand_latched h _ _) h)

theorem releaseMotion_latched (button : MotionButton) : (releaseMotion button s).latched := by
  have hreleased := setButton_latched h button false
  exact latched_ite h (latched_ite (actOnRelease_latched hreleased button) hreleased)

theorem pressAck_latched : (pressAck s).latched := by
  have hpressed : (s.setPendant { s.pendant with ack := true }).latched := h
  exact latched_ite h (latched_ite (requestCommand_latched hpressed _ _) hpressed)

theorem pressMark_latched : (pressMark s).latched := by
  have hpressed : (s.setPendant { s.pendant with mark := true }).latched := h
  exact latched_ite h (latched_ite (requestCommand_latched hpressed _ _) hpressed)

theorem releaseSide_latched (button : SideButton) : (releaseSide button s).latched := by
  cases button <;> exact h

theorem removePendant_latched : (removePendant s).latched := by
  have hremoved : (s.setPendant
      { s.pendant with present := false, held := none, lockout := false }).latched := h
  exact latched_ite h (latched_ite (requestCommand_latched hremoved _ _) hremoved)

theorem plugPendant_latched : (plugPendant s).latched := h

/-! ### The Line Interface's own events -/

theorem filterFrame_latched (f : LineFrame) : (filterFrame f s).latched := by
  unfold filterFrame
  split
  case h_1 => exact latched_ite h (latched_ite (report_latched h rfl) (arriveFrame_latched h _))
  all_goals exact latched_ite (arriveFrame_latched h _) h

theorem receiveFrame_latched (bytes : List Byte) (framingError startedAtIdle : Bool) :
    (receiveFrame bytes framingError startedAtIdle s).latched := by
  have hidle : (s.setLine { s.line with rxWaitsIdle := false }).latched := h
  unfold receiveFrame
  refine latched_ite h (latched_ite hidle ?_)
  split
  · exact hidle
  · exact filterFrame_latched hidle _

theorem beginAttempt_latched : (beginAttempt s).latched := by
  unfold beginAttempt
  refine latched_ite ?_ h
  split
  · exact h
  · exact latched_ite h h

theorem attemptSucceeds_latched : (attemptSucceeds s).latched := by
  unfold attemptSucceeds
  split
  case h_1 =>
    dsimp only
    split
    · exact arriveFrame_latched (by exact h) _
    · exact h
  all_goals exact h

theorem loseArbitration_latched : (loseArbitration s).latched := latched_ite h h

theorem transmitError_latched : (transmitError s).latched := by
  unfold transmitError
  exact latched_ite (latched_ite (report_latched (by exact h) rfl) h) h

/-! ### Samples -/

theorem startTransfer_latched : (startTransfer s).latched :=
  latched_ite (latched_ite h (latched_ite h h)) h

theorem testOverrun_latched : (testOverrun s).latched := by
  unfold testOverrun
  exact latched_ite (latched_ite (report_latched (by exact h) rfl) h) h

theorem controlPeriod_latched : (controlPeriod s).latched := by
  have hrestarted : (s.setSensors { s.sensors with controlTimer := controlPeriodMs }).latched := h
  have htested := testOverrun_latched hrestarted
  exact startTransfer_latched (s := State.setSensors _ _) htested

theorem spreadCheck_latched : (spreadCheck s).latched := by
  unfold spreadCheck
  split
  · exact h
  · exact latched_ite (report_latched h rfl) h

theorem followSample_latched : (followSample s).latched := by
  have hspread := spreadCheck_latched h
  have hwork : (afterArrivalTest (spreadCheck s)).latched :=
    latched_ite (arrive_latched hspread _) hspread
  unfold followSample
  dsimp only
  split <;> exact hwork

theorem stallCheck_latched (height : Nat) : (stallCheck height s).latched := by
  unfold stallCheck
  exact latched_ite h (latched_ite (report_latched (by exact h) rfl) (latched_ite h h))

theorem wrongDirectionCheck_latched (height : Nat) : (wrongDirectionCheck height s).latched :=
  latched_ite (report_latched h rfl) h

theorem takeStall_latched (brake : BrakeOrder) (start : State) (height : Nat) :
    (takeStall brake start height s).latched :=
  latched_ite (latched_ite (report_latched h rfl) h) (stallCheck_latched h height)

theorem takeWrongDirection_latched (brake : BrakeOrder) (start : State) (height : Nat) :
    (takeWrongDirection brake start height s).latched :=
  latched_ite (latched_ite (report_latched h rfl) h) (wrongDirectionCheck_latched h height)

theorem driftCheck_latched (height : Nat) : (driftCheck height s).latched := by
  unfold driftCheck
  split
  · exact h
  · exact latched_ite (report_latched h rfl) h

theorem checkMotion_latched (valid : Bool) (order : SampleOrder) (start : State) :
    (checkMotion valid order start s).latched := by
  unfold checkMotion
  split
  · exact driftCheck_latched
      (latched_ite (takeWrongDirection_latched (takeStall_latched h _ _ _) _ _ _)
        (takeStall_latched (takeWrongDirection_latched h _ _ _) _ _ _)) _
  · exact h

theorem positionRules_latched (valid : Bool) : (positionRules valid s).latched := by
  by_cases hi : s.phases.phase = .init
  · rw [positionRules_of_init hi]
    exact exitInit_latched (by exact h) (by exact hi) true
  by_cases hk : s.phases.phase = .seek
  · rw [positionRules_of_seek hk]
    exact latched_ite (enterSeated_latched h (by rw [hk]; rfl))
      (latched_ite (report_latched h rfl) h)
  · rwa [positionRules_of_other hi hk]

theorem loadRules_latched : (loadRules s).latched := by
  by_cases hi : s.phases.phase = .init
  · rw [loadRules_of_init hi]
    exact exitInit_latched (by exact h) (by exact hi) false
  · rwa [loadRules_of_other hi]

theorem takeSample_latched (valid : Bool) (order : SampleOrder) (start : State)
    (taker : SampleTaker) : (takeSample valid order start s taker).latched := by
  cases taker with
  | follower => exact followSample_latched h
  | motionChecks => exact checkMotion_latched h valid order start
  | phaseRules => exact positionRules_latched h valid

theorem handSample_latched (valid : Bool) (order : SampleOrder) :
    (handSample valid order s).latched := by
  have htake (takers : List SampleTaker) {u : State} (hu : u.latched) :
      (takers.foldl (takeSample valid order s) u).latched :=
    latched_foldl (fun _ taker hv => takeSample_latched hv valid order s taker) takers hu
  have hfirst := htake ((takersOf order.takers).take order.takersBeforeReport) h
  exact htake _ (latched_ite (report_latched hfirst rfl) hfirst)

theorem storePosition_latched (word : BitVec 18) : (storePosition word s).latched :=
  latched_ite h h

theorem completePosition_latched (word : BitVec 18) (order : SampleOrder) :
    (completePosition word order s).latched := by
  have hidle : (s.setSensors { s.sensors with port := .idle, overrunCount := 0 }).latched := h
  exact latched_ite (startTransfer_latched
    (handSample_latched (storePosition_latched hidle word) _ order)) h

theorem contactSet_latched : (contactSet s).latched := by
  unfold contactSet
  split
  case h_1 hp => exact enterSeated_latched h (by rw [hp]; rfl)
  all_goals exact h

theorem contactCleared_latched : (contactCleared s).latched := by
  unfold contactCleared
  split
  case h_1 | h_2 | h_3 => exact report_latched h rfl
  case h_4 hp => exact changePhase_latched h (by rw [hp]; rfl) rfl
  all_goals exact h

theorem qualifyContact_latched (c : ConfigValues) (first : Bool) :
    (qualifyContact c first s).latched := by
  have hevent (contact : Bool) :
      (s.setSensors { s.sensors with contact := contact, contactRun := 0 }).latched := h
  exact latched_ite h (latched_ite
    (latched_ite (latched_ite (contactCleared_latched (hevent false)) h) h)
    (latched_ite (latched_ite (contactSet_latched (hevent true)) h) h))

theorem qualifyOverload_latched (c : ConfigValues) : (qualifyOverload c s).latched := by
  unfold qualifyOverload
  exact latched_ite (latched_ite (report_latched (by exact h) rfl) h) h

theorem takeLoad_latched (c : ConfigValues) (first : Bool) (order : LoadOrder) :
    (takeLoad c first order s).latched := by
  cases order with
  | contactOverloadStart =>
    exact loadRules_latched (qualifyOverload_latched (qualifyContact_latched h c first) c)
  | overloadContactStart =>
    exact loadRules_latched (qualifyContact_latched (qualifyOverload_latched h c) c first)
  | contactStartOverload =>
    exact qualifyOverload_latched (loadRules_latched (qualifyContact_latched h c first)) c

theorem completeLoad_latched (word : BitVec 12) (order : LoadOrder) :
    (completeLoad word order s).latched := by
  unfold completeLoad
  refine latched_ite (startTransfer_latched ?_) h
  split
  · exact loadRules_latched (by exact h)
  next c _ => exact takeLoad_latched (by exact h) c _ order

/-! ### Service frames -/

theorem takeService_latched {accept : State → State} (haccept : (accept s).latched) :
    (takeService accept s).latched := by
  unfold takeService
  split
  · exact h
  · exact haccept

theorem writeField_latched (id : Nat) (value : Word) : (writeField id value s).latched := by
  unfold writeField
  split
  · exact h
  · exact latched_ite h h

theorem writeTolerance_latched (value : Word) : (writeTolerance value s).latched := by
  unfold writeTolerance
  split
  · exact h
  · exact latched_ite h h

theorem startCommit_latched : (startCommit s).latched := by
  unfold startCommit
  split <;> exact h

theorem handConfigWrite_latched : (handConfigWrite s).latched := by
  unfold handConfigWrite
  split
  next _ _ rest _ =>
    have hdropped : (s.afterHanding rest).latched := h
    exact latched_ite h (takeService_latched hdropped (writeField_latched hdropped _ _))
  next => exact h

theorem handTolRewind_latched : (handTolRewind s).latched := by
  unfold handTolRewind
  split
  next _ _ rest _ =>
    have hdropped : (s.afterHanding rest).latched := h
    exact latched_ite (takeService_latched hdropped hdropped) h
  next => exact h

theorem handTolWrite_latched : (handTolWrite s).latched := by
  unfold handTolWrite
  split
  next _ rest _ =>
    have hdropped : (s.afterHanding rest).latched := h
    exact takeService_latched hdropped (writeTolerance_latched hdropped _)
  next => exact h

theorem handCommit_latched : (handCommit s).latched := by
  unfold handCommit
  split
  next rest _ =>
    have hdropped : (s.afterHanding rest).latched := h
    exact takeService_latched hdropped (startCommit_latched hdropped)
  next => exact h

theorem handRestart_latched (inputs : SampledInputs) : (handRestart inputs s).latched := by
  unfold handRestart
  split
  next rest _ =>
    have hdropped : (s.afterHanding rest).latched := h
    exact takeService_latched hdropped (resetPart_latched .service inputs _)
  next => exact h

theorem handCloseSetup_latched : (handCloseSetup s).latched := by
  unfold handCloseSetup
  split
  · exact closeWindow_latched (by exact h)
  · exact h

/-! ### The Peer Table's notices -/

theorem lostNotice_latched (station : Nat) : (lostNotice s station).latched := by
  unfold lostNotice
  split
  case h_1 hp => exact changePhase_latched h (by rw [hp]; rfl) rfl
  case h_9 | h_10 | h_11 => exact h
  all_goals exact report_latched h rfl

theorem silenceScan_latched : (silenceScan s).latched := by
  have hscanned : s.scanned.latched := h
  rw [silenceScan_eq]
  exact latched_foldl (fun _ station hu => lostNotice_latched hu station) _
    (latched_ite hscanned (updateBlink_latched hscanned))

theorem epochItem_latched (epoch : BitVec 4) : (epochItem epoch s).latched :=
  latched_ite h (latched_ite (acknowledge_latched h) h)

/-- A peer halt is latched outside the starting phases alone (R129). -/
theorem haltItem_latched (station : Nat) (epoch : BitVec 4) (halt : HaltReport) :
    (haltItem station epoch halt s).latched := by
  unfold haltItem
  split
  next =>
    split
    next hown =>
      refine latchPeerHalt_latched h ?_ station
      rw [Bool.and_eq_true, Bool.not_eq_true'] at hown
      obtain ⟨-, hstarting⟩ := hown
      revert hstarting
      cases s.phases.phase <;> decide
    next => exact h
  all_goals exact h

theorem completionNotice_latched : (completionNotice s).latched := by
  unfold completionNotice
  split
  next hp => exact changePhase_latched h (by rw [hp]; rfl) (by split <;> rfl)
  next => exact h

theorem afterItems_latched (e : PeerEntry) (restarted : Bool) :
    (s.afterItems e restarted).latched := by
  have hepoch := epochItem_latched h e.epoch
  have htold : (if restarted then restartedNotice (epochItem e.epoch s)
      else epochItem e.epoch s).latched :=
    latched_ite (latched_ite (report_latched hepoch rfl) hepoch) hepoch
  exact haltItem_latched
    (latched_ite htold (latched_ite (report_latched htold rfl) htold)) _ _ _

theorem statusNotice_latched (e : PeerEntry) (restarted wasComplete : Bool) :
    (statusNotice e restarted wasComplete s).latched := by
  have hitems := afterItems_latched h e restarted
  rw [statusNotice_eq]
  exact evaluateSeating_latched (latched_ite (completionNotice_latched hitems) hitems)

theorem takeStatus_latched (station : BitVec 6) (f : StatusFields) :
    (takeStatus station f s).latched := by
  unfold takeStatus
  split
  · exact h
  refine latched_ite h ?_
  split
  · exact h
  refine latched_ite (report_latched h rfl) ?_
  exact statusNotice_latched (updateBlink_latched (by exact h)) _ _ _

theorem handStatus_latched : (handStatus s).latched := by
  unfold handStatus
  split
  · exact takeStatus_latched (by exact h) _ _
  · exact h

/-! ### Every step -/

theorem running_latched {effect : State → State} {t : State} (ht : running s effect = .next t)
    (heffect : (effect s).latched) : t.latched := by
  obtain rfl := Host.Outcome.next.inj ht
  exact latched_ite h heffect

theorem exec_latched (i : Instr) {t : State} (ht : exec i s = .next t) : t.latched := by
  cases i with
  | reset kind inputs =>
    obtain rfl := Host.Outcome.next.inj ht
    exact release_latched h kind inputs
  | resetApplied =>
    obtain rfl := Host.Outcome.next.inj ht
    exact applyReset_latched h
  | silenceScanExpiry => exact running_latched h ht (silenceScan_latched h)
  | controlPeriodExpiry => exact running_latched h ht (controlPeriod_latched h)
  | positionCompletion word order =>
    exact running_latched h ht (completePosition_latched h word order)
  | loadCompletion word order => exact running_latched h ht (completeLoad_latched h word order)
  | statusTimerExpiry => exact running_latched h ht (fillSlot_latched h)
  | dwellExpiry => exact running_latched h ht (dwellExpiry_latched h)
  | settleExpiry => exact running_latched h ht (settleExpiry_latched h)
  | demandTimerExpiry => exact running_latched h ht (demandExpiry_latched h)
  | blinkTimerExpiry => exact running_latched h ht (blinkExpiry_latched h)
  | windowTimerExpiry => exact running_latched h ht (windowExpiry_latched h)
  | commitCompletion => exact running_latched h ht (completeCommit_latched h)
  | guardActiveEdge line => exact running_latched h ht (activeEdge_latched h line)
  | guardInactiveEdge line => exact running_latched h ht (inactiveEdge_latched h line)
  | motionButtonPress button => exact running_latched h ht (pressMotion_latched h button)
  | deadManRelease button => exact running_latched h ht (releaseMotion_latched h button)
  | ackButtonPress => exact running_latched h ht (pressAck_latched h)
  | markButtonPress => exact running_latched h ht (pressMark_latched h)
  | ackOrMarkRelease button => exact running_latched h ht (releaseSide_latched h button)
  | pendantRemoved => exact running_latched h ht (removePendant_latched h)
  | pendantPlugged => exact running_latched h ht (plugPendant_latched h)
  | frameReceived bytes framingError startedAtIdle =>
    exact running_latched h ht (receiveFrame_latched h bytes framingError startedAtIdle)
  | status => exact running_latched h ht (handStatus_latched h)
  | raise => exact running_latched h ht (handCommand_latched h takeRaise_latched)
  | lower => exact running_latched h ht (handCommand_latched h takeLower_latched)
  | hold => exact running_latched h ht (handCommand_latched h takeHold_latched)
  | estop => exact running_latched h ht (handCommand_latched h takeEstop_latched)
  | ack => exact running_latched h ht (handCommand_latched h takeAck_latched)
  | setMark => exact running_latched h ht (handCommand_latched h takeSetMark_latched)
  | clearMark => exact running_latched h ht (handCommand_latched h takeClearMark_latched)
  | configWrite => exact running_latched h ht (handConfigWrite_latched h)
  | tolRewind => exact running_latched h ht (handTolRewind_latched h)
  | tolWrite => exact running_latched h ht (handTolWrite_latched h)
  | commit => exact running_latched h ht (handCommit_latched h)
  | restart inputs => exact running_latched h ht (handRestart_latched h inputs)
  | closeSetup => exact running_latched h ht (handCloseSetup_latched h)
  | attempt => exact running_latched h ht (beginAttempt_latched h)
  | attemptSucceeds => exact running_latched h ht (attemptSucceeds_latched h)
  | transmitError => exact running_latched h ht (transmitError_latched h)
  | lostArbitration => exact running_latched h ht (loseArbitration_latched h)
  | commandKindUndefined => exact running_latched h ht (handUndefined_latched h)

theorem step_latched {t : State} (ht : step s = .next t) : t.latched := by
  rw [step] at ht
  split at ht
  · obtain rfl := Host.Outcome.next.inj ht
    exact idleStep_latched h
  next c rest _ =>
    have htaken : (s.setPending rest).latched := h
    exact exec_latched htaken c ht

end

/-- Settles O58: an exact halt makes the agreement self-carrying, and every operation that writes
the phase, the causes or the latches keeps it. -/
theorem stepKeepsLatchesAgreeing : Obligations.StepKeepsLatchesAgreeing := by
  unfold Obligations.StepKeepsLatchesAgreeing
  intro s t hagree hx ht
  obtain ⟨hstill, -⟩ := step_latched (latched_of_haltExact hagree hx) ht
  exact hstill

end Sys2Proof.Machine

/-! ## The Lift Line: proofs of the family's statements -/

namespace Sys2Proof.Machine

/-! ### The transmitter and the Store's timers (R156, R157, R159, R177, R179)

The two invariants read the Line Interface and the Store alone, and are carried together. An
operation that writes none of their items leaves the statement as it reads, and the hypothesis
itself closes it. -/

/-- How many commands an attempt marks as being sent (R157). -/
def TxState.marks : TxState → Nat
  | .sendingCommand _ => 1
  | .idle | .waiting | .sendingStatus _ _ | .disabled => 0

/-- How many commands of a queue are marked as being sent. -/
def sendingCount (queue : List TxCommand) : Nat := queue.countP (fun q => q.sending)

/-- The transmitter, its queue and its slot agree. -/
def LineBlock.txAgrees (l : LineBlock) : Prop :=
  sendingCount l.queue = l.tx.marks ∧ (l.tx = .idle → l.queue = [] ∧ l.slot = false) ∧
    (l.tx = .disabled → l.queue = [])

/-- The Store's timers agree with its window and its commit state. -/
def StoreBlock.timed (x : StoreBlock) : Prop :=
  (x.commit = .idle ↔ x.writeTimer = none) ∧ (x.windowOpen = false → x.windowTimer = none)

/-- The transmitter and the Store's timers are sound. -/
def State.linedUp (s : State) : Prop := s.line.txAgrees ∧ s.store.timed

theorem linedUp_iff (s : State) : s.linedUp ↔ s.txSound ∧ s.storeTimersSound := by
  have hmarks : s.line.tx.marks =
      match s.line.tx with
      | .sendingCommand _ => 1
      | .idle | .waiting | .sendingStatus _ _ | .disabled => 0 := by
    cases s.line.tx <;> rfl
  simp only [State.linedUp, LineBlock.txAgrees, hmarks]
  rfl

theorem linedUp_ite {p : Prop} [Decidable p] {a b : State} (ha : a.linedUp) (hb : b.linedUp) :
    (if p then a else b).linedUp := by
  split <;> assumption

theorem linedUp_foldl {α : Type} {f : State → α → State}
    (hf : ∀ {u : State} (a : α), u.linedUp → (f u a).linedUp) (l : List α) {s : State}
    (h : s.linedUp) : (l.foldl f s).linedUp := by
  induction l generalizing s with
  | nil => exact h
  | cons a rest ih => exact ih (hf a h)

theorem linedUp_of_frame {s t : State} (h : s.linedUp) (hl : t.line = s.line)
    (hs : t.store = s.store) : t.linedUp := by
  rwa [State.linedUp, hl, hs]

/-! ### The transmitter by its states -/

/-- A transmitter in WAITING agrees with every queue of which nothing is being sent. -/
theorem txAgrees_waiting {l : LineBlock} (htx : l.tx = .waiting) (hq : sendingCount l.queue = 0) :
    l.txAgrees := by
  simp [LineBlock.txAgrees, htx, TxState.marks, hq]

/-- A transmitter with nothing to send agrees in IDLE and DISABLED as well. -/
theorem txAgrees_of_nil {l : LineBlock} (htx : l.tx.marks = 0) (hq : l.queue = [])
    (hslot : l.slot = false ∨ l.tx ≠ .idle) : l.txAgrees :=
  ⟨by rw [hq, htx]; rfl, fun hidle => ⟨hq, hslot.resolve_right (not_not_intro hidle)⟩, fun _ => hq⟩

theorem txAgrees_txAfter {l : LineBlock} (htx : l.tx = txAfter l.queue l.slot)
    (hq : sendingCount l.queue = 0) : l.txAgrees := by
  unfold txAfter at htx
  split at htx
  next hnothing =>
    simp only [Bool.and_eq_true, List.isEmpty_iff, Bool.not_eq_true'] at hnothing
    obtain ⟨hnil, hslot⟩ := hnothing
    exact txAgrees_of_nil (by rw [htx]; rfl) hnil (.inl hslot)
  next => exact txAgrees_waiting htx hq

@[simp] theorem TxState.marks_wake (tx : TxState) : tx.wake.marks = tx.marks := by
  cases tx <;> rfl

@[simp] theorem TxState.marks_afterFill (tx : TxState) : tx.afterFill.marks = tx.marks := by
  cases tx <;> rfl

theorem TxState.wake_ne_idle (tx : TxState) : tx.wake ≠ .idle := by
  cases tx <;> simp [TxState.wake]

theorem TxState.afterFill_ne_idle (tx : TxState) : tx.afterFill ≠ .idle := by
  cases tx <;> simp [TxState.afterFill]

theorem TxState.wake_eq_disabled_iff {tx : TxState} : tx.wake = .disabled ↔ tx = .disabled := by
  cases tx <;> simp [TxState.wake]

theorem TxState.afterFill_eq_disabled_iff {tx : TxState} :
    tx.afterFill = .disabled ↔ tx = .disabled := by
  cases tx <;> simp [TxState.afterFill]

/-! ### The queue -/

theorem sendingCount_unmarkSending (queue : List TxCommand) :
    sendingCount (unmarkSending queue) = 0 := by
  simp [sendingCount, unmarkSending]

theorem sendingCount_joinQueue (kind : CommandKind) (arg : Word) (queue : List TxCommand) :
    sendingCount (joinQueue kind arg queue) = sendingCount queue := by
  have hsplit := congrArg sendingCount
    (List.takeWhile_append_dropWhile (p := fun x : TxCommand => x.kind == .estop) (l := queue))
  rw [sendingCount, List.countP_append] at hsplit
  cases kind with
  | estop => simpa [sendingCount, joinQueue] using hsplit
  | _ => simp [sendingCount, joinQueue]

/-- The command that gives way is not the one being sent (R162). -/
theorem sendingCount_dropNewest {queue rest : List TxCommand} (h : dropNewest queue = some rest) :
    sendingCount rest = sendingCount queue := by
  simp only [dropNewest, Option.ite_none_right_eq_some, Option.some.injEq] at h
  obtain ⟨hany, rfl⟩ := h
  obtain ⟨q, hq, hd⟩ := List.any_eq_true.1 hany
  obtain ⟨x, before, after, -, hx, hqueue, herased⟩ :=
    List.exists_of_eraseP (List.mem_reverse.2 hq) hd
  obtain ⟨hx, -⟩ := (displaceable_iff x).1 hx
  have hreversed : sendingCount queue.reverse = sendingCount queue :=
    List.countP_reverse
  rw [herased, ← hreversed, hqueue]
  simp [sendingCount, List.countP_reverse, hx, Nat.add_comm]

theorem sendingCount_requestQueue {kind : CommandKind} {arg : Word} {queue next : List TxCommand}
    (h : requestQueue kind arg queue = some next) : sendingCount next = sendingCount queue := by
  unfold requestQueue at h
  split at h
  next =>
    obtain rfl := Option.some.inj h
    exact sendingCount_joinQueue kind arg queue
  next =>
    split at h
    case h_3 | h_4 | h_5 | h_6 | h_7 => exact absurd h (by simp)
    all_goals
      obtain ⟨rest, hrest, rfl⟩ := Option.map_eq_some_iff.1 h
      rw [sendingCount_joinQueue, sendingCount_dropNewest hrest]

/-- The one command being sent leaves the queue (R159). -/
theorem sendingCount_eraseP {queue : List TxCommand} (h : sendingCount queue = 1) :
    sendingCount (queue.eraseP (fun q => q.sending)) = 0 := by
  obtain ⟨q, hq, hsending⟩ := List.countP_pos_iff.1 (Nat.lt_of_lt_of_eq Nat.zero_lt_one h.symm)
  obtain ⟨x, before, after, -, hx, hqueue, herased⟩ := List.exists_of_eraseP hq hsending
  rw [hqueue] at h
  rw [herased]
  simpa [sendingCount, hx, ← Nat.add_assoc] using h

/-! Writing another block leaves both. -/

theorem State.linedUp.setPhases {s : State} (h : s.linedUp) (x : PhaseBlock) :
    (s.setPhases x).linedUp := h

theorem State.linedUp.setFollower {s : State} (h : s.linedUp) (x : FollowerBlock) :
    (s.setFollower x).linedUp := h

theorem State.linedUp.setSensors {s : State} (h : s.linedUp) (x : SensorBlock) :
    (s.setSensors x).linedUp := h

theorem State.linedUp.setDrive {s : State} (h : s.linedUp) (x : DriveBlock) :
    (s.setDrive x).linedUp := h

theorem State.linedUp.setGuards {s : State} (h : s.linedUp) (x : GuardBlock) :
    (s.setGuards x).linedUp := h

theorem State.linedUp.setPendant {s : State} (h : s.linedUp) (x : PendantBlock) :
    (s.setPendant x).linedUp := h

/-! ### The walk over the operations

`h` says that the two invariants hold before the operation. -/

section
variable {s : State} (h : s.linedUp)
include h

/-- A filled slot wakes an IDLE transmitter (R158). -/
theorem fillSlot_linedUp : (fillSlot s).linedUp := by
  obtain ⟨⟨hcount, -, hdisabled⟩, hstore⟩ := h
  exact ⟨⟨hcount.trans (TxState.marks_afterFill _).symm,
    fun hidle => absurd hidle (TxState.afterFill_ne_idle _),
    fun hoff => hdisabled (TxState.afterFill_eq_disabled_iff.1 hoff)⟩, hstore⟩

/-- A request that joins wakes an IDLE transmitter, and none joins in DISABLED (R160, R162). -/
theorem requestCommand_linedUp (kind : CommandKind) (arg : Word) :
    (requestCommand kind arg s).linedUp := by
  unfold requestCommand
  split
  next => exact h
  next henabled =>
    split
    next => exact h
    next next hnext =>
      obtain ⟨⟨hcount, -, -⟩, hstore⟩ := h
      exact ⟨⟨(sendingCount_requestQueue hnext).trans
          (hcount.trans (TxState.marks_wake _).symm),
        fun hidle => absurd hidle (TxState.wake_ne_idle _),
        fun hoff => absurd (TxState.wake_eq_disabled_iff.1 hoff) henabled⟩, hstore⟩

/-- Of the two blocks a change of phase writes the slot alone (R43). -/
theorem changePhase_linedUp (new : Phase) : (changePhase new s).linedUp := by
  by_cases hp : s.phases.phase = new
  · rwa [← hp, changePhase_same]
  · exact linedUp_of_frame (fillSlot_linedUp h) (changePhase_line hp) (changePhase_store new s)

theorem report_linedUp (cause : Cause) : (report cause s).linedUp :=
  linedUp_ite h (fillSlot_linedUp (changePhase_linedUp (h.setPhases _) .halted))

theorem latchPeerHalt_linedUp (station : Nat) : (latchPeerHalt station s).linedUp := by
  unfold latchPeerHalt
  split
  · exact h
  · exact fillSlot_linedUp (changePhase_linedUp (h.setPhases _) .halted)

theorem arriveFrame_linedUp (frame : RxFrame) : (arriveFrame frame s).linedUp := by
  unfold arriveFrame
  refine linedUp_ite h ?_
  split
  case h_1 => exact linedUp_ite h (report_linedUp h _)
  all_goals exact h

theorem updateBlink_linedUp : (updateBlink s).linedUp :=
  linedUp_of_frame h (updateBlink_line s) (updateBlink_store s)

theorem stopDrive_linedUp : (stopDrive s).linedUp :=
  linedUp_of_frame h (stopDrive_line s) (stopDrive_store s)

/-! Entries into phases. -/

theorem evaluateSeating_linedUp : (evaluateSeating s).linedUp := by
  have hcount : (s.setPhases { s.phases with seatedCount := countSeated s.peers }).linedUp := h
  exact linedUp_ite (linedUp_ite (changePhase_linedUp hcount .lift) hcount) h

theorem enterSeated_linedUp : (enterSeated s).linedUp :=
  evaluateSeating_linedUp (changePhase_linedUp h .seated)

theorem arrive_linedUp (atMark : Bool) : (arrive atMark s).linedUp := by
  unfold arrive
  split
  case h_1 | h_2 =>
    exact updateBlink_linedUp ((changePhase_linedUp h .hold).setPhases _)
  case h_3 => exact changePhase_linedUp h .ready
  all_goals exact h

/-! Guard edges. -/

theorem reportGuard_linedUp (i : Fin 8) : (reportGuard i s).linedUp :=
  report_linedUp (linedUp_ite (requestCommand_linedUp h .estop 0#16) h) (guardCause i)

theorem bottomEdge_linedUp : (bottomEdge s).linedUp := by
  unfold bottomEdge
  split
  case h_1 => exact changePhase_linedUp h .ready
  case h_2 => exact linedUp_ite (report_linedUp (h.setGuards _) .bottomLoaded) h
  all_goals exact h

theorem guardEdge_linedUp (i : Fin 8) : (guardEdge i s).linedUp := by
  unfold guardEdge
  refine linedUp_ite (bottomEdge_linedUp h) ?_
  split
  case h_1 | h_2 => exact h
  all_goals exact reportGuard_linedUp (h.setGuards _) i

theorem pseudoEdge_linedUp (i : Fin 8) : (pseudoEdge s i).linedUp := by
  unfold pseudoEdge
  split
  · exact h
  · exact linedUp_ite h
      (linedUp_ite (reportGuard_linedUp h i) (linedUp_ite (guardEdge_linedUp h i) h))

theorem exitInit_linedUp (atPosition : Bool) : (exitInit atPosition s).linedUp := by
  have hedges := linedUp_foldl (fun i hu => pseudoEdge_linedUp hu i) guardLines
    (changePhase_linedUp h .listen)
  have hlisten : (enterListenFromInit s).linedUp :=
    linedUp_ite (changePhase_linedUp hedges _) hedges
  exact linedUp_ite (linedUp_ite (changePhase_linedUp h .unconfigured) h) (linedUp_ite hlisten h)

theorem activeEdge_linedUp (i : Fin 8) : (activeEdge i s).linedUp := by
  unfold activeEdge
  split
  · exact h
  next c _ =>
    exact linedUp_ite h (linedUp_ite (guardEdge_linedUp (h.setGuards _) i) h)

theorem inactiveEdge_linedUp (i : Fin 8) : (inactiveEdge i s).linedUp := by
  unfold inactiveEdge
  split <;> exact h

/-! Acknowledgement and resets. -/

/-- LINE_FAULT removed: a DISABLED transmitter, whose queue is empty, waits or idles as its slot
says (R161). -/
theorem restored_txAgrees : s.line.restored.txAgrees := by
  obtain ⟨⟨hcount, hidle, hdisabled⟩, -⟩ := h
  unfold LineBlock.restored
  split
  next hoff =>
    split
    next => exact txAgrees_waiting rfl (by rw [hcount, hoff]; rfl)
    next hslot => exact txAgrees_of_nil rfl (hdisabled hoff) (.inl (Bool.eq_false_iff.2 hslot))
  next => exact ⟨hcount, hidle, hdisabled⟩

theorem relieved_linedUp : s.relieved.linedUp := by
  refine ⟨?_, relieved_store s ▸ h.2⟩
  rw [relieved_line]
  split
  · exact restored_txAgrees h
  · exact h.1

theorem acknowledge_linedUp : (acknowledge s).linedUp :=
  fillSlot_linedUp
    (linedUp_ite (changePhase_linedUp (relieved_linedUp h) _) (relieved_linedUp h))

omit h in
theorem resetPart_linedUp (kind : ResetKind) (inputs : SampledInputs) (s : State) :
    (resetPart kind inputs s).linedUp := by
  refine ⟨txAgrees_of_nil ?_ rfl (.inl rfl), ⟨iff_of_true rfl rfl, fun hclosed => ?_⟩⟩
  · unfold resetPart
    dsimp only
    split <;> rfl
  · exact absurd hclosed Bool.noConfusion

theorem release_linedUp (kind : ResetKind) (inputs : SampledInputs) :
    (release kind inputs s).linedUp := linedUp_ite h (resetPart_linedUp kind inputs s)

/-- The line is released, its command unmarked, and no commit is left in flight (R168, R180). -/
theorem applyReset_linedUp : (applyReset s).linedUp := by
  obtain ⟨⟨-, hidle, hdisabled⟩, -, hwindow⟩ := h
  have hsilent : (applyReset s).line.tx.marks = 0 := by
    have hnot := applyReset_not_isSending s
    cases htx : (applyReset s).line.tx <;> simp_all [TxState.isSending, TxState.marks]
  have hkept {tx : TxState} (hne : tx ≠ .waiting) (htx : (applyReset s).line.tx = tx) :
      s.line.tx = tx := by
    unfold applyReset at htx
    dsimp only at htx
    split at htx
    · exact absurd htx.symm hne
    · exact htx
  refine ⟨⟨(sendingCount_unmarkSending _).trans hsilent.symm, fun hi => ?_, fun ho => ?_⟩,
    iff_of_true rfl rfl, hwindow⟩
  · obtain ⟨hnil, hslot⟩ := hidle (hkept (by simp) hi)
    exact ⟨congrArg unmarkSending hnil, hslot⟩
  · exact congrArg unmarkSending (hdisabled (hkept (by simp) ho))

/-! Time and the timers. -/

theorem passMillisecond_linedUp : (passMillisecond s).linedUp := by
  obtain ⟨hline, hcommit, hwindow⟩ := h
  have hnone (t : Timer) : countDown t = none ↔ t = none := Option.map_eq_none_iff
  exact ⟨hline, hcommit.trans (hnone _).symm, fun hclosed => (hnone _).2 (hwindow hclosed)⟩

theorem idleStep_linedUp : (idleStep s).linedUp := by
  unfold idleStep
  refine linedUp_ite h ?_
  split
  · exact passMillisecond_linedUp h
  all_goals exact h

theorem dwellExpiry_linedUp : (dwellExpiry s).linedUp := linedUp_ite h (linedUp_ite h h)

theorem settleExpiry_linedUp : (settleExpiry s).linedUp := linedUp_ite h (linedUp_ite h h)

theorem demandExpiry_linedUp : (demandExpiry s).linedUp :=
  linedUp_ite h (report_linedUp (stopDrive_linedUp (h.setDrive _)) .driveStarved)

theorem blinkExpiry_linedUp : (blinkExpiry s).linedUp := linedUp_ite h h

theorem closeWindow_linedUp : (closeWindow s).linedUp := by
  obtain ⟨hline, hcommit, hwindow⟩ := h
  exact linedUp_ite ⟨hline, hcommit, fun _ => rfl⟩ ⟨hline, hcommit, hwindow⟩

theorem windowExpiry_linedUp : (windowExpiry s).linedUp := by
  have hidle : (s.setStore { s.store with windowTimer := none }).linedUp := by
    obtain ⟨hline, hcommit, -⟩ := h
    exact ⟨hline, hcommit, fun _ => rfl⟩
  exact linedUp_ite h (linedUp_ite hidle (closeWindow_linedUp hidle))

theorem completeCommit_linedUp : (completeCommit s).linedUp := by
  unfold completeCommit
  split
  · exact h
  · obtain ⟨hline, -, hwindow⟩ := h
    exact ⟨hline, iff_of_true rfl rfl, hwindow⟩

/-! Group commands. -/

theorem handCommand_linedUp {kind : CommandKind} {take : Word → State → State}
    (htake : ∀ {u : State}, u.linedUp → ∀ arg : Word, (take arg u).linedUp) :
    (handCommand kind take s).linedUp := by
  unfold handCommand
  split
  next _ _ arg rest _ =>
    have hdropped : (s.afterHanding rest).linedUp := h
    exact linedUp_ite (linedUp_ite (htake hdropped arg) hdropped) h
  next => exact h

theorem closeWindowOnMotion_linedUp : (closeWindowOnMotion s).linedUp :=
  linedUp_ite h (closeWindow_linedUp h)

theorem takeTarget_linedUp (arg : Word) : (takeTarget arg s).linedUp :=
  updateBlink_linedUp (h.setPhases _)

theorem takeRaise_linedUp (arg : Word) : (takeRaise arg s).linedUp := by
  have hclosed := closeWindowOnMotion_linedUp h
  have htaken := takeTarget_linedUp hclosed arg
  unfold takeRaise
  dsimp only
  split
  case h_1 | h_2 | h_3 | h_4 => exact hclosed
  case h_6 | h_7 => exact htaken
  case h_8 => exact evaluateSeating_linedUp htaken
  all_goals exact changePhase_linedUp htaken _

theorem takeLower_linedUp (arg : Word) : (takeLower arg s).linedUp := by
  have hclosed := closeWindowOnMotion_linedUp h
  have htaken := takeTarget_linedUp hclosed arg
  unfold takeLower
  dsimp only
  split
  case h_1 | h_2 | h_3 | h_4 => exact hclosed
  case h_10 | h_11 => exact htaken
  all_goals exact changePhase_linedUp htaken _

theorem takeHold_linedUp (arg : Word) : (takeHold arg s).linedUp := by
  unfold takeHold
  split
  case h_7 | h_8 | h_9 | h_10 | h_11 => exact changePhase_linedUp h _
  all_goals exact h

theorem takeEstop_linedUp (arg : Word) : (takeEstop arg s).linedUp := by
  unfold takeEstop
  split
  case h_1 | h_2 | h_3 => exact h
  all_goals exact report_linedUp h .estopCommand

theorem takeAck_linedUp (arg : Word) : (takeAck arg s).linedUp :=
  linedUp_ite (acknowledge_linedUp h) h

theorem takeSetMark_linedUp (arg : Word) : (takeSetMark arg s).linedUp := linedUp_ite h h

theorem takeClearMark_linedUp (arg : Word) : (takeClearMark arg s).linedUp :=
  linedUp_ite (linedUp_ite h h) h

theorem handUndefined_linedUp : (handUndefined s).linedUp := by
  unfold handUndefined
  split
  · exact linedUp_ite h h
  · exact h

/-! The pendant. -/

theorem setButton_linedUp (button : MotionButton) (pressed : Bool) :
    (setButton button pressed s).linedUp := by
  cases button <;> exact h

theorem pressMotion_linedUp (button : MotionButton) : (pressMotion button s).linedUp := by
  have hpressed := setButton_linedUp h button true
  have hlocked (x : PendantBlock) : ((setButton button true s).setPendant x).linedUp := hpressed
  have hacted : (actOnPress button (setButton button true s)).linedUp :=
    linedUp_ite hpressed
      (linedUp_ite (requestCommand_linedUp (hlocked _) _ _) (requestCommand_linedUp hpressed _ _))
  exact linedUp_ite h (linedUp_ite hacted hpressed)

theorem releaseMotion_linedUp (button : MotionButton) : (releaseMotion button s).linedUp := by
  have hreleased := setButton_linedUp h button false
  have hacted : (actOnRelease button (setButton button false s)).linedUp :=
    linedUp_ite (linedUp_ite hreleased hreleased)
      (linedUp_ite (requestCommand_linedUp hreleased _ _) hreleased)
  exact linedUp_ite h (linedUp_ite hacted hreleased)

theorem pressAck_linedUp : (pressAck s).linedUp :=
  linedUp_ite h (linedUp_ite (requestCommand_linedUp (h.setPendant _) _ _) h)

theorem pressMark_linedUp : (pressMark s).linedUp :=
  linedUp_ite h (linedUp_ite (requestCommand_linedUp (h.setPendant _) _ _) h)

theorem releaseSide_linedUp (button : SideButton) : (releaseSide button s).linedUp := by
  cases button <;> exact h

theorem removePendant_linedUp : (removePendant s).linedUp :=
  linedUp_ite h (linedUp_ite (requestCommand_linedUp (h.setPendant _) _ _) h)

theorem plugPendant_linedUp : (plugPendant s).linedUp := h

/-! The Line Interface's own events. -/

theorem receiveFrame_linedUp (bytes : List Byte) (framingError startedAtIdle : Bool) :
    (receiveFrame bytes framingError startedAtIdle s).linedUp := by
  have hidle : (s.setLine { s.line with rxWaitsIdle := false }).linedUp := h
  unfold receiveFrame
  refine linedUp_ite h (linedUp_ite hidle ?_)
  split
  · exact hidle
  next f _ =>
    unfold filterFrame
    split
    case h_1 =>
      exact linedUp_ite hidle (linedUp_ite (report_linedUp hidle _) (arriveFrame_linedUp hidle _))
    all_goals exact linedUp_ite (arriveFrame_linedUp hidle _) hidle

/-- An attempt marks the head of a queue of which nothing was being sent (R157). -/
theorem beginAttempt_linedUp : (beginAttempt s).linedUp := by
  unfold beginAttempt
  split
  next hwaiting =>
    have ⟨⟨hcount, _, _⟩, hstore⟩ := h
    rw [hwaiting] at hcount
    split
    next q rest hqueue =>
      rw [hqueue, sendingCount, List.countP_cons] at hcount
      have hrest : rest.countP (fun q => q.sending) = 0 := Nat.eq_zero_of_add_eq_zero_right hcount
      have hone : sendingCount ({ q with sending := true } :: rest) = 1 := by
        simp [sendingCount, hrest]
      exact ⟨⟨hone, (nomatch ·), (nomatch ·)⟩, hstore⟩
    next =>
      exact linedUp_ite ⟨⟨hcount, (nomatch ·), (nomatch ·)⟩, hstore⟩ h
  next => exact h

theorem attemptSucceeds_linedUp : (attemptSucceeds s).linedUp := by
  have ⟨⟨hcount, _, _⟩, hstore⟩ := h
  unfold attemptSucceeds
  split
  next frame htx =>
    rw [htx] at hcount
    have hleft : (s.setLine
        { s.line with
          errors := 0
          queue := s.line.queue.eraseP (fun q => q.sending)
          tx := txAfter (s.line.queue.eraseP (fun q => q.sending)) s.line.slot }).linedUp :=
      ⟨txAgrees_txAfter rfl (sendingCount_eraseP hcount), hstore⟩
    dsimp only
    split
    · exact arriveFrame_linedUp hleft _
    · exact hleft
  next frame refilled htx =>
    rw [htx] at hcount
    exact ⟨txAgrees_txAfter rfl hcount, hstore⟩
  all_goals exact h

theorem loseArbitration_linedUp : (loseArbitration s).linedUp := by
  have ⟨_, hstore⟩ := h
  exact linedUp_ite ⟨txAgrees_waiting rfl (sendingCount_unmarkSending _), hstore⟩ h

theorem transmitError_linedUp : (transmitError s).linedUp := by
  have ⟨_, hstore⟩ := h
  have hdisabled : (s.setLine
      { s.line with
        errors := min (s.line.errors + 1) maxTransmitErrors, queue := [], tx := .disabled
        rxWaitsIdle := true }).linedUp :=
    ⟨txAgrees_of_nil rfl rfl (.inr (TxState.noConfusion ·)), hstore⟩
  exact linedUp_ite
    (linedUp_ite (report_linedUp hdisabled .lineFault)
      ⟨txAgrees_waiting rfl (sendingCount_unmarkSending _), hstore⟩)
    h

/-! Samples. -/

theorem startTransfer_linedUp : (startTransfer s).linedUp :=
  linedUp_ite (linedUp_ite h (linedUp_ite h h)) h

theorem controlPeriod_linedUp : (controlPeriod s).linedUp := by
  have htested : (testOverrun (s.setSensors
      { s.sensors with controlTimer := controlPeriodMs })).linedUp :=
    linedUp_ite (linedUp_ite (report_linedUp ((h.setSensors _).setSensors _) .sensorStale) h) h
  exact startTransfer_linedUp (htested.setSensors _)

theorem followSample_linedUp : (followSample s).linedUp := by
  have hspread : (spreadCheck s).linedUp := by
    unfold spreadCheck
    split
    · exact h
    · exact linedUp_ite (report_linedUp h _) h
  have hwork : (afterArrivalTest (spreadCheck s)).linedUp :=
    linedUp_ite (arrive_linedUp hspread _) hspread
  unfold followSample
  dsimp only
  split <;> exact hwork

theorem takeStall_linedUp (brake : BrakeOrder) (start : State) (height : Nat) :
    (takeStall brake start height s).linedUp :=
  linedUp_ite (linedUp_ite (report_linedUp h _) h)
    (linedUp_ite h
      (linedUp_ite (report_linedUp (h.setFollower _) .stall) (linedUp_ite h h)))

theorem takeWrongDirection_linedUp (brake : BrakeOrder) (start : State) (height : Nat) :
    (takeWrongDirection brake start height s).linedUp :=
  linedUp_ite (linedUp_ite (report_linedUp h _) h) (linedUp_ite (report_linedUp h _) h)

theorem driftCheck_linedUp (height : Nat) : (driftCheck height s).linedUp := by
  unfold driftCheck
  split
  · exact h
  · exact linedUp_ite (report_linedUp h _) h

theorem checkMotion_linedUp (valid : Bool) (order : SampleOrder) (start : State) :
    (checkMotion valid order start s).linedUp := by
  unfold checkMotion
  split
  · exact driftCheck_linedUp
      (linedUp_ite (takeWrongDirection_linedUp (takeStall_linedUp h _ _ _) _ _ _)
        (takeStall_linedUp (takeWrongDirection_linedUp h _ _ _) _ _ _)) _
  · exact h

theorem positionRules_linedUp (valid : Bool) : (positionRules valid s).linedUp := by
  unfold positionRules
  split
  case h_1 => exact exitInit_linedUp (linedUp_ite (h.setPhases _) h) true
  case h_2 => exact linedUp_ite (enterSeated_linedUp h) (linedUp_ite (report_linedUp h _) h)
  all_goals exact h

theorem loadRules_linedUp : (loadRules s).linedUp := by
  unfold loadRules
  split
  case h_1 => exact exitInit_linedUp (h.setPhases _) false
  all_goals exact h

theorem takeSample_linedUp (valid : Bool) (order : SampleOrder) (start : State)
    (taker : SampleTaker) : (takeSample valid order start s taker).linedUp := by
  cases taker with
  | follower => exact followSample_linedUp h
  | motionChecks => exact checkMotion_linedUp h valid order start
  | phaseRules => exact positionRules_linedUp h valid

theorem handSample_linedUp (valid : Bool) (order : SampleOrder) :
    (handSample valid order s).linedUp := by
  have htake (takers : List SampleTaker) {u : State} (hu : u.linedUp) :
      (takers.foldl (takeSample valid order s) u).linedUp :=
    linedUp_foldl (fun taker hv => takeSample_linedUp hv valid order s taker) takers hu
  have hfirst := htake ((takersOf order.takers).take order.takersBeforeReport) h
  exact htake _ (linedUp_ite (report_linedUp hfirst .sensorInvalid) hfirst)

theorem storePosition_linedUp (word : BitVec 18) : (storePosition word s).linedUp :=
  linedUp_ite h h

theorem completePosition_linedUp (word : BitVec 18) (order : SampleOrder) :
    (completePosition word order s).linedUp :=
  linedUp_ite
    (startTransfer_linedUp
      (handSample_linedUp (storePosition_linedUp (h.setSensors _) word) _ order))
    h

theorem qualifyContact_linedUp (c : ConfigValues) (first : Bool) :
    (qualifyContact c first s).linedUp := by
  have hcleared {u : State} (hu : u.linedUp) : (contactCleared u).linedUp := by
    unfold contactCleared
    split
    case h_1 | h_2 | h_3 => exact report_linedUp hu .loadLost
    case h_4 => exact changePhase_linedUp hu .retract
    all_goals exact hu
  have hset {u : State} (hu : u.linedUp) : (contactSet u).linedUp := by
    unfold contactSet
    split
    case h_1 => exact enterSeated_linedUp hu
    all_goals exact hu
  exact linedUp_ite h (linedUp_ite
    (linedUp_ite (linedUp_ite (hcleared (h.setSensors _)) h) h)
    (linedUp_ite (linedUp_ite (hset (h.setSensors _)) h) h))

theorem qualifyOverload_linedUp (c : ConfigValues) : (qualifyOverload c s).linedUp :=
  linedUp_ite (linedUp_ite (report_linedUp (h.setSensors _) .overload) h) h

theorem takeLoad_linedUp (c : ConfigValues) (first : Bool) (order : LoadOrder) :
    (takeLoad c first order s).linedUp := by
  cases order with
  | contactOverloadStart =>
    exact loadRules_linedUp (qualifyOverload_linedUp (qualifyContact_linedUp h c first) c)
  | overloadContactStart =>
    exact loadRules_linedUp (qualifyContact_linedUp (qualifyOverload_linedUp h c) c first)
  | contactStartOverload =>
    exact qualifyOverload_linedUp (loadRules_linedUp (qualifyContact_linedUp h c first)) c

theorem completeLoad_linedUp (word : BitVec 12) (order : LoadOrder) :
    (completeLoad word order s).linedUp := by
  unfold completeLoad
  refine linedUp_ite (startTransfer_linedUp ?_) h
  split
  · exact loadRules_linedUp (h.setSensors _)
  next c _ => exact takeLoad_linedUp ((h.setSensors _).setSensors _) c _ order

/-! Service frames. -/

theorem setResult_linedUp (result : ConfigResult) : (setResult result s).linedUp := h

theorem takeService_linedUp {accept : State → State} (haccept : (accept s).linedUp) :
    (takeService accept s).linedUp := by
  unfold takeService
  split
  · exact setResult_linedUp h _
  · exact haccept

theorem writeField_linedUp (id : Nat) (value : Word) : (writeField id value s).linedUp := by
  unfold writeField
  split
  · exact setResult_linedUp h _
  · exact linedUp_ite h (setResult_linedUp h _)

theorem writeTolerance_linedUp (value : Word) : (writeTolerance value s).linedUp := by
  unfold writeTolerance
  split
  · exact setResult_linedUp h _
  · exact linedUp_ite h (setResult_linedUp h _)

/-- The write timer starts with the commit (R179). -/
theorem startCommit_linedUp : (startCommit s).linedUp := by
  unfold startCommit
  split
  · exact setResult_linedUp h _
  · obtain ⟨hline, -, hwindow⟩ := h
    exact ⟨hline, iff_of_false (nomatch ·) (nomatch ·), hwindow⟩

theorem handConfigWrite_linedUp : (handConfigWrite s).linedUp := by
  unfold handConfigWrite
  split
  next _ _ rest _ =>
    have hdropped : (s.afterHanding rest).linedUp := h
    exact linedUp_ite h (takeService_linedUp hdropped (writeField_linedUp hdropped _ _))
  next => exact h

theorem handTolRewind_linedUp : (handTolRewind s).linedUp := by
  unfold handTolRewind
  split
  next _ _ rest _ =>
    have hdropped : (s.afterHanding rest).linedUp := h
    exact linedUp_ite (takeService_linedUp hdropped hdropped) h
  next => exact h

theorem handTolWrite_linedUp : (handTolWrite s).linedUp := by
  unfold handTolWrite
  split
  next _ rest _ =>
    have hdropped : (s.afterHanding rest).linedUp := h
    exact takeService_linedUp hdropped (writeTolerance_linedUp hdropped _)
  next => exact h

theorem handCommit_linedUp : (handCommit s).linedUp := by
  unfold handCommit
  split
  next rest _ =>
    have hdropped : (s.afterHanding rest).linedUp := h
    exact takeService_linedUp hdropped (startCommit_linedUp hdropped)
  next => exact h

theorem handRestart_linedUp (inputs : SampledInputs) : (handRestart inputs s).linedUp := by
  unfold handRestart
  split
  next rest _ =>
    have hdropped : (s.afterHanding rest).linedUp := h
    exact takeService_linedUp hdropped (resetPart_linedUp .service inputs _)
  next => exact h

theorem handCloseSetup_linedUp : (handCloseSetup s).linedUp := by
  unfold handCloseSetup
  split
  next rest _ =>
    have hdropped : (s.afterHanding rest).linedUp := h
    exact closeWindow_linedUp hdropped
  next => exact h

/-! The Peer Table's notices. -/

theorem lostNotice_linedUp (station : Nat) : (lostNotice s station).linedUp := by
  unfold lostNotice
  split
  case h_1 => exact changePhase_linedUp h .listen
  case h_9 | h_10 | h_11 => exact h
  all_goals exact report_linedUp h .peerSilent

theorem silenceScan_linedUp : (silenceScan s).linedUp := by
  have hscanned : s.scanned.linedUp := h
  rw [silenceScan_eq]
  exact linedUp_foldl (fun station hu => lostNotice_linedUp hu station) _
    (linedUp_ite hscanned (updateBlink_linedUp hscanned))

theorem haltItem_linedUp (station : Nat) (epoch : BitVec 4) (halt : HaltReport) :
    (haltItem station epoch halt s).linedUp := by
  unfold haltItem
  split
  case h_1 => exact linedUp_ite (latchPeerHalt_linedUp h station) h
  all_goals exact h

theorem afterItems_linedUp (e : PeerEntry) (restarted : Bool) :
    (s.afterItems e restarted).linedUp := by
  have hepoch : (epochItem e.epoch s).linedUp :=
    linedUp_ite h (linedUp_ite (acknowledge_linedUp h) h)
  have htold : (if restarted then restartedNotice (epochItem e.epoch s)
      else epochItem e.epoch s).linedUp :=
    linedUp_ite (linedUp_ite (report_linedUp hepoch .peerRestarted) hepoch) hepoch
  exact haltItem_linedUp
    (linedUp_ite htold (linedUp_ite (report_linedUp htold .configMismatch) htold)) _ _ _

theorem statusNotice_linedUp (e : PeerEntry) (restarted wasComplete : Bool) :
    (statusNotice e restarted wasComplete s).linedUp := by
  have hitems := afterItems_linedUp h e restarted
  have hcompleted : (completionNotice (s.afterItems e restarted)).linedUp :=
    linedUp_ite (changePhase_linedUp hitems _) hitems
  rw [statusNotice_eq]
  exact evaluateSeating_linedUp (linedUp_ite hcompleted hitems)

theorem takeStatus_linedUp (station : BitVec 6) (f : StatusFields) :
    (takeStatus station f s).linedUp := by
  unfold takeStatus
  split
  · exact h
  refine linedUp_ite h ?_
  split
  · exact h
  refine linedUp_ite (report_linedUp h .positionClash) ?_
  exact statusNotice_linedUp (updateBlink_linedUp (by exact h)) _ _ _

theorem handStatus_linedUp : (handStatus s).linedUp := by
  unfold handStatus
  split
  next rest _ =>
    have hdropped : (s.afterHanding rest).linedUp := h
    exact takeStatus_linedUp hdropped _ _
  next => exact h

/-! Every step. -/

theorem running_linedUp {effect : State → State} {t : State} (ht : running s effect = .next t)
    (heffect : (effect s).linedUp) : t.linedUp := by
  obtain rfl := Host.Outcome.next.inj ht
  exact linedUp_ite h heffect

theorem exec_linedUp (i : Instr) {t : State} (ht : exec i s = .next t) : t.linedUp := by
  cases i with
  | reset kind inputs =>
    obtain rfl := Host.Outcome.next.inj ht
    exact release_linedUp h kind inputs
  | resetApplied =>
    obtain rfl := Host.Outcome.next.inj ht
    exact applyReset_linedUp h
  | silenceScanExpiry => exact running_linedUp h ht (silenceScan_linedUp h)
  | controlPeriodExpiry => exact running_linedUp h ht (controlPeriod_linedUp h)
  | positionCompletion word order =>
    exact running_linedUp h ht (completePosition_linedUp h word order)
  | loadCompletion word order => exact running_linedUp h ht (completeLoad_linedUp h word order)
  | statusTimerExpiry => exact running_linedUp h ht (fillSlot_linedUp h)
  | dwellExpiry => exact running_linedUp h ht (dwellExpiry_linedUp h)
  | settleExpiry => exact running_linedUp h ht (settleExpiry_linedUp h)
  | demandTimerExpiry => exact running_linedUp h ht (demandExpiry_linedUp h)
  | blinkTimerExpiry => exact running_linedUp h ht (blinkExpiry_linedUp h)
  | windowTimerExpiry => exact running_linedUp h ht (windowExpiry_linedUp h)
  | commitCompletion => exact running_linedUp h ht (completeCommit_linedUp h)
  | guardActiveEdge line => exact running_linedUp h ht (activeEdge_linedUp h line)
  | guardInactiveEdge line => exact running_linedUp h ht (inactiveEdge_linedUp h line)
  | motionButtonPress button => exact running_linedUp h ht (pressMotion_linedUp h button)
  | deadManRelease button => exact running_linedUp h ht (releaseMotion_linedUp h button)
  | ackButtonPress => exact running_linedUp h ht (pressAck_linedUp h)
  | markButtonPress => exact running_linedUp h ht (pressMark_linedUp h)
  | ackOrMarkRelease button => exact running_linedUp h ht (releaseSide_linedUp h button)
  | pendantRemoved => exact running_linedUp h ht (removePendant_linedUp h)
  | pendantPlugged => exact running_linedUp h ht (plugPendant_linedUp h)
  | frameReceived bytes framingError startedAtIdle =>
    exact running_linedUp h ht (receiveFrame_linedUp h bytes framingError startedAtIdle)
  | status => exact running_linedUp h ht (handStatus_linedUp h)
  | raise => exact running_linedUp h ht (handCommand_linedUp h takeRaise_linedUp)
  | lower => exact running_linedUp h ht (handCommand_linedUp h takeLower_linedUp)
  | hold => exact running_linedUp h ht (handCommand_linedUp h takeHold_linedUp)
  | estop => exact running_linedUp h ht (handCommand_linedUp h takeEstop_linedUp)
  | ack => exact running_linedUp h ht (handCommand_linedUp h takeAck_linedUp)
  | setMark => exact running_linedUp h ht (handCommand_linedUp h takeSetMark_linedUp)
  | clearMark => exact running_linedUp h ht (handCommand_linedUp h takeClearMark_linedUp)
  | configWrite => exact running_linedUp h ht (handConfigWrite_linedUp h)
  | tolRewind => exact running_linedUp h ht (handTolRewind_linedUp h)
  | tolWrite => exact running_linedUp h ht (handTolWrite_linedUp h)
  | commit => exact running_linedUp h ht (handCommit_linedUp h)
  | restart inputs => exact running_linedUp h ht (handRestart_linedUp h inputs)
  | closeSetup => exact running_linedUp h ht (handCloseSetup_linedUp h)
  | attempt => exact running_linedUp h ht (beginAttempt_linedUp h)
  | attemptSucceeds => exact running_linedUp h ht (attemptSucceeds_linedUp h)
  | transmitError => exact running_linedUp h ht (transmitError_linedUp h)
  | lostArbitration => exact running_linedUp h ht (loseArbitration_linedUp h)
  | commandKindUndefined => exact running_linedUp h ht (handUndefined_linedUp h)

theorem step_linedUp {t : State} (ht : step s = .next t) : t.linedUp := by
  rw [step] at ht
  split at ht
  · obtain rfl := Host.Outcome.next.inj ht
    exact idleStep_linedUp h
  next c rest _ =>
    have htaken : (s.setPending rest).linedUp := h
    exact exec_linedUp htaken c ht

end

/-- Settles O60: the two invariants read the Line Interface and the Store, and every operation that
writes the transmitter, its queue, the slot or the Store's timers keeps them. -/
theorem stepKeepsTransmitterSound : Obligations.StepKeepsTransmitterSound := by
  unfold Obligations.StepKeepsTransmitterSound
  intro s t htx hstore ht
  exact (linedUp_iff t).1 (step_linedUp ((linedUp_iff s).2 ⟨htx, hstore⟩) ht)

end Sys2Proof.Machine

namespace Sys2Proof.Machine

/-! ### A request to the transmit command queue (R160, R162) -/

theorem joinQueue_of_ne_estop {kind : CommandKind} (hk : kind ≠ .estop) (arg : Word)
    (queue : List TxCommand) :
    joinQueue kind arg queue = queue ++ [{ kind := kind, arg := arg, sending := false }] := by
  cases kind with
  | estop => exact absurd rfl hk
  | _ => rfl

/-- An ESTOP joins behind the ESTOPs and ahead of the rest (R162). -/
theorem joinQueue_estop {stops others : List TxCommand} (arg : Word)
    (hstops : ∀ x ∈ stops, x.kind = .estop) (hothers : ∀ x ∈ others.head?, x.kind ≠ .estop) :
    joinQueue .estop arg (stops ++ others) =
      stops ++ { kind := .estop, arg := arg, sending := false } :: others := by
  obtain ⟨htaken, hdropped⟩ := splitStops stops others hstops hothers
  rw [joinQueue, htaken, hdropped]

theorem dropNewest_of_none {queue : List TxCommand} (h : ∀ x ∈ queue, ¬x.givesWay) :
    dropNewest queue = none := by
  refine if_neg fun hany => ?_
  obtain ⟨x, hx, hd⟩ := List.any_eq_true.1 hany
  exact h x hx ((displaceable_iff x).1 hd)

theorem requestQueue_of_room {queue : List TxCommand} (hroom : queue.length < 4)
    (kind : CommandKind) (arg : Word) :
    requestQueue kind arg queue = some (joinQueue kind arg queue) := if_pos hroom

/-- HOLD and ESTOP displace a command of a full queue (R162). -/
theorem requestQueue_of_full {kind : CommandKind} {queue : List TxCommand}
    (hfull : 4 ≤ queue.length) (hk : kind = .hold ∨ kind = .estop) (arg : Word) :
    requestQueue kind arg queue = (dropNewest queue).map (joinQueue kind arg) := by
  unfold requestQueue
  rw [if_neg (Nat.not_lt.2 hfull)]
  rcases hk with rfl | rfl <;> rfl

/-- Every other request finds no room in a full queue (R162). -/
theorem requestQueue_of_full_other {kind : CommandKind} {queue : List TxCommand}
    (hfull : 4 ≤ queue.length) (hestop : kind ≠ .estop) (hhold : kind ≠ .hold) (arg : Word) :
    requestQueue kind arg queue = none := by
  unfold requestQueue
  rw [if_neg (Nat.not_lt.2 hfull)]
  cases kind with
  | estop => exact absurd rfl hestop
  | hold => exact absurd rfl hhold
  | _ => rfl

theorem requestCommand_of_disabled {s : State} (h : s.line.tx = .disabled) (kind : CommandKind)
    (arg : Word) : requestCommand kind arg s = s := if_pos h

section
variable {s : State} {kind : CommandKind} {arg : Word}

theorem requestCommand_of_dropped (h : requestQueue kind arg s.line.queue = none) :
    requestCommand kind arg s = s := by
  rw [requestCommand, h]
  exact ite_self s

theorem requestCommand_of_joined {next : List TxCommand} (hon : s.line.tx ≠ .disabled)
    (h : requestQueue kind arg s.line.queue = some next) :
    requestCommand kind arg s =
      { s with line := { s.line with queue := next, tx := s.line.tx.wake } } := by
  rw [requestCommand, if_neg hon, h]
  rfl

end

/-- Settles O21: the queue after a request, by its room and by the kind. -/
theorem queueTakesRequests : Obligations.QueueTakesRequests := by
  unfold Obligations.QueueTakesRequests
  rintro s kind arg q rfl
  refine ⟨fun hoff => requestCommand_of_disabled hoff kind arg, fun hon => ⟨?_, ?_, ?_, ?_, ?_, ?_⟩⟩
  · intro hroom hk
    exact requestCommand_of_joined hon
      (by rw [requestQueue_of_room hroom, joinQueue_of_ne_estop hk])
  · rintro stops others hroom rfl hqueue hstops hothers
    exact requestCommand_of_joined hon
      (by rw [requestQueue_of_room hroom, hqueue, joinQueue_estop arg hstops hothers])
  · intro hfull hestop hhold
    exact requestCommand_of_dropped (requestQueue_of_full_other hfull hestop hhold arg)
  · intro hfull hnone
    refine requestCommand_of_dropped ?_
    by_cases hk : kind = .hold ∨ kind = .estop
    · rw [requestQueue_of_full hfull hk, dropNewest_of_none hnone, Option.map_none]
    · obtain ⟨hhold, hestop⟩ := not_or.1 hk
      exact requestQueue_of_full_other hfull hestop hhold arg
  · rintro before after x hfull rfl hqueue hx hafter
    refine requestCommand_of_joined hon ?_
    rw [requestQueue_of_full hfull (.inl rfl), hqueue, dropNewest_of_givesWay hx hafter,
      Option.map_some, joinQueue_of_ne_estop CommandKind.noConfusion]
  · rintro stops before after x hfull rfl hqueue hx hafter hstops hothers
    refine requestCommand_of_joined hon ?_
    rw [requestQueue_of_full hfull (.inr rfl), hqueue, dropNewest_of_givesWay hx hafter,
      Option.map_some, List.append_assoc, joinQueue_estop arg hstops hothers]

/-! ### An arrival at the receive queue (R167) -/

/-- The frame is a STATUS frame, which a COMMAND may displace (R167). -/
def RxFrame.isStatus : RxFrame → Bool
  | .status _ _ => true
  | .command _ _ _ | .configWrite _ _ | .tolWrite _ | .commit | .restart | .closeSetup => false

theorem RxFrame.isStatus_iff (f : RxFrame) :
    f.isStatus = true ↔ ∃ station fields, f = .status station fields := by
  cases f <;> simp [RxFrame.isStatus]

section
variable {s : State}

theorem arriveFrame_of_room (h : s.line.rxQueue.length < 8) (frame : RxFrame) :
    arriveFrame frame s =
      { s with line := { s.line with rxQueue := s.line.rxQueue ++ [frame] } } := if_pos h

/-- A full queue discards what is no command. -/
theorem arriveFrame_of_full_other (h : 8 ≤ s.line.rxQueue.length) {frame : RxFrame}
    (hframe : ∀ station kind arg, frame ≠ .command station kind arg) : arriveFrame frame s = s := by
  unfold arriveFrame
  rw [if_neg (Nat.not_lt.2 h)]
  split
  · exact absurd rfl (hframe _ _ _)
  all_goals rfl

/-- A command displaces the oldest STATUS of a full queue, or reports the overrun. -/
theorem arriveFrame_of_full_command (h : 8 ≤ s.line.rxQueue.length) (station : BitVec 6)
    (kind : BitVec 4) (arg : Word) :
    arriveFrame (.command station kind arg) s =
      if s.line.rxQueue.any RxFrame.isStatus then
        { s with
          line :=
            { s.line with
              rxQueue :=
                s.line.rxQueue.eraseP RxFrame.isStatus ++ [.command station kind arg] } }
      else report .receiveOverrun s := by
  rw [arriveFrame, if_neg (Nat.not_lt.2 h)]
  rfl

end

/-- Settles O36: the arrival by the queue's room, the frame and the oldest STATUS. -/
theorem receiveQueueArrivals : Obligations.ReceiveQueueArrivals := by
  unfold Obligations.ReceiveQueueArrivals
  refine fun s frame => ⟨fun h => arriveFrame_of_room h frame, fun hfull =>
    ⟨arriveFrame_of_full_other hfull, ?_⟩⟩
  rintro station kind arg rfl
  rw [arriveFrame_of_full_command hfull]
  refine ⟨fun hnone => if_neg fun hany => ?_, fun before after st f hqueue hbefore => ?_⟩
  · obtain ⟨x, hx, hstatus⟩ := List.any_eq_true.1 hany
    obtain ⟨st, f, rfl⟩ := x.isStatus_iff.1 hstatus
    exact hnone st f hx
  · have hkept : ∀ x ∈ before, ¬x.isStatus = true := fun x hx hstatus => by
      obtain ⟨st', f', rfl⟩ := x.isStatus_iff.1 hstatus
      exact hbefore st' f' hx
    have hany : s.line.rxQueue.any RxFrame.isStatus = true := by
      rw [hqueue]
      simp [RxFrame.isStatus]
    rw [if_pos hany, hqueue, List.eraseP_append_right _ hkept, List.eraseP_cons_of_pos rfl]

/-! ### Timers that run out (R87, R109, R114, R158, R177) -/

/-- What a command answers to a part to which no reset is applied. -/
theorem exec_of_free {s t : State} (hfree : s.held = false) {i : Instr} {effect : State → State}
    (hi : exec i s = running s effect) (ht : effect s = t) : exec i s = .next t := by
  rw [hi, running_of_free hfree, ht]

/-- The window closes unless the SETUP strap is fitted; its timer is idle in both cases (R177,
log 23). -/
theorem windowExpiry_of_running {s : State} (hrun : s.store.windowTimer ≠ none) :
    windowExpiry s =
      { s with
        store :=
          { s.store with
            windowOpen := s.store.windowOpen && s.store.setupStrap, windowTimer := none } } := by
  rw [windowExpiry, if_neg (by simpa using hrun)]
  cases hstrap : s.store.setupStrap <;> cases hopen : s.store.windowOpen <;>
    simp [closeWindow, State.setStore, hstrap, hopen]

/-- Settles O12: each expiry is the state written out, once its timer is known to run. -/
theorem timerExpiriesActOnTheirBlocks : Obligations.TimerExpiriesActOnTheirBlocks := by
  unfold Obligations.TimerExpiriesActOnTheirBlocks
  intro s hfree
  refine ⟨exec_of_free hfree rfl ?_, fun hrun => exec_of_free hfree rfl ?_,
    fun hrun => exec_of_free hfree rfl ?_, fun hdwell hrun => exec_of_free hfree rfl ?_,
    fun hstopped hrun => exec_of_free hfree rfl ?_⟩
  · exact congrArg s.setLine (by cases s.line.tx <;> rfl)
  · exact if_neg (by simpa using hrun)
  · exact windowExpiry_of_running hrun
  · rw [dwellExpiry, if_neg (by simpa using hrun), if_pos hdwell]
    rfl
  · rw [settleExpiry, if_neg (by simpa using hrun)]
    exact if_pos hstopped

end Sys2Proof.Machine

namespace Sys2Proof.Machine

/-! ### An attempt (R157) -/

theorem ownGroup_eq (s : State) :
    ownGroup s =
      match s.store.active with
      | some c => c.fields.group.setWidth 4
      | none => 0#4 := by
  unfold ownGroup
  cases s.store.active <;> rfl

theorem commandPriority_eq (kind : CommandKind) :
    commandPriority kind = if kind = .estop then 0#2 else 1#2 := by
  cases kind <;> rfl

/-! The codes a STATUS frame carries (R153). -/

theorem Phase.code_eq_idxOf (p : Phase) : p.code = phasesByCode.idxOf p := by
  cases p <;> rfl

theorem Cause.code_eq_idxOf (cause : Cause) : cause.code = causesByCode.idxOf cause + 1 := by
  cases cause <;> rfl

theorem resetCauseCode_eq_idxOf (kind : ResetKind) :
    resetCauseCode kind = BitVec.ofNat 2 (resetKindsByCode.idxOf kind) := by
  cases kind <;> rfl

theorem ConfigResult.code_eq_idxOf (result : ConfigResult) :
    result.code = BitVec.ofNat 3 (resultsByCode.idxOf result) := by
  cases result <;> rfl

theorem ownSide_eq_right (c : ConfigValues) :
    (c.ownSide == .right) = (c.fields.side != 0#16) := by
  rw [Bool.eq_iff_iff]
  simp [ConfigValues.ownSide]

section
variable {s : State}

theorem beginAttempt_of_other (h : s.line.tx ≠ .waiting) : beginAttempt s = s := if_neg h

theorem beginAttempt_of_command (htx : s.line.tx = .waiting) {q : TxCommand}
    {rest : List TxCommand} (hqueue : s.line.queue = q :: rest) :
    beginAttempt s =
      { s with
        line :=
          { s.line with
            tx :=
              .sendingCommand
                (buildFrame (if q.kind = .estop then 0#2 else 1#2) s.store.station 2#4 (ownGroup s)
                  (bytes32 (q.kind.code ++ q.arg ++ 0#12)))
            queue := { q with sending := true } :: rest
            rxWaitsIdle := false } } := by
  rw [beginAttempt, if_pos htx, hqueue, ← commandPriority_eq]
  rfl

theorem beginAttempt_of_status (htx : s.line.tx = .waiting) (hqueue : s.line.queue = [])
    (hslot : s.line.slot = true) :
    beginAttempt s =
      { s with
        line :=
          { s.line with
            tx :=
              .sendingStatus
                (buildFrame 2#2 s.store.station 1#4 (ownGroup s)
                  (bytes80 ((statusFields s).onLine 0#5)))
                false
            rxWaitsIdle := false } } := by
  rw [beginAttempt, if_pos htx, hqueue]
  exact if_pos hslot

theorem beginAttempt_of_nothing (hqueue : s.line.queue = []) (hslot : s.line.slot = false) :
    beginAttempt s = s := by
  rw [beginAttempt, hqueue, hslot]
  exact ite_self s

end

/-- Settles O37: the three sources of an attempt, and the sixteen fields one by one. -/
theorem attemptSendsHead : Obligations.AttemptSendsHead := by
  unfold Obligations.AttemptSendsHead
  intro s group fields hfree hgroup hfields
  obtain rfl : group = ownGroup s := hgroup.trans (ownGroup_eq s).symm
  obtain rfl : fields = statusFields s := by
    rw [hfields, statusFields, StatusFields.mk.injEq]
    refine ⟨?lineEq, ?sideEq, congrArg _ (Phase.code_eq_idxOf _).symm, rfl, rfl, rfl, rfl, rfl, rfl,
      rfl, ?kindEq, ?originEq, rfl, rfl, (resetCauseCode_eq_idxOf _).symm,
      (ConfigResult.code_eq_idxOf _).symm⟩
    case lineEq => cases s.store.active <;> rfl
    case sideEq =>
      cases s.store.active with
      | none => rfl
      | some c => exact (ownSide_eq_right c).symm
    case kindEq =>
      unfold ownHalt
      cases s.phases.causes with
      | cons cause rest => rfl
      | nil => cases s.phases.origin <;> rfl
    case originEq =>
      unfold ownHalt
      cases s.phases.causes with
      | cons cause rest => exact congrArg (BitVec.ofNat 6) cause.code_eq_idxOf.symm
      | nil => cases s.phases.origin <;> rfl
  have hexec {t : State} : beginAttempt s = t → exec .attempt s = .next t :=
    exec_of_free hfree rfl
  exact ⟨fun h => hexec (beginAttempt_of_other h), fun htx =>
    ⟨fun q rest hqueue => hexec (beginAttempt_of_command htx hqueue),
      fun hqueue hslot => hexec (beginAttempt_of_status htx hqueue hslot),
      fun hqueue hslot => hexec (beginAttempt_of_nothing hqueue hslot)⟩⟩

/-! ### How an attempt ends (R155, R159, R160) -/

theorem txAfter_eq (queue : List TxCommand) (slot : Bool) :
    txAfter queue slot = if queue = [] ∧ slot = false then .idle else .waiting := by
  cases queue <;> cases slot <;> rfl

section
variable {s : State}

/-- The command being sent leaves the queue, and its copy arrives (R159, log 18). -/
theorem attemptSucceeds_of_command {frame : List Byte} (htx : s.line.tx = .sendingCommand frame)
    {before after : List TxCommand} {q : TxCommand} (hqueue : s.line.queue = before ++ q :: after)
    (hq : q.sending = true) (hbefore : ∀ x ∈ before, x.sending = false) :
    attemptSucceeds s =
      arriveFrame (.command s.store.station q.kind.code q.arg)
        { s with
          line :=
            { s.line with
              errors := 0, queue := before ++ after
              tx := if before ++ after = [] ∧ s.line.slot = false then .idle else .waiting } } := by
  have hkept : ∀ x ∈ before, ¬x.sending = true := fun x hx => by simp [hbefore x hx]
  have hleft : s.line.queue.eraseP (fun q => q.sending) = before ++ after := by
    rw [hqueue, List.eraseP_append_right _ hkept, List.eraseP_cons_of_pos hq]
  have hsent : sentCommand s.line.queue = some q := by
    rw [sentCommand, hqueue, List.find?_append, List.find?_eq_none.2 hkept,
      List.find?_cons_of_pos hq]
    rfl
  unfold attemptSucceeds
  rw [htx, hleft, hsent, ← txAfter_eq]
  rfl

theorem attemptSucceeds_of_status {frame : List Byte} {refilled : Bool}
    (htx : s.line.tx = .sendingStatus frame refilled) :
    attemptSucceeds s =
      { s with
        line :=
          { s.line with
            errors := 0, slot := refilled, statusTimer := 20
            tx := if s.line.queue = [] ∧ refilled = false then .idle else .waiting } } := by
  unfold attemptSucceeds
  rw [htx, ← txAfter_eq]
  rfl

theorem loseArbitration_of_sending (h : s.line.tx.isSending = true) :
    loseArbitration s =
      { s with
        line :=
          { s.line with
            tx := .waiting
            queue := s.line.queue.map (fun q => { q with sending := false }) } } := if_pos h

theorem transmitError_of_few (h : s.line.tx.isSending = true) (herrors : s.line.errors < 7) :
    transmitError s =
      { s with
        line :=
          { s.line with
            errors := s.line.errors + 1, tx := .waiting, rxWaitsIdle := true
            queue := s.line.queue.map (fun q => { q with sending := false }) } } := by
  have hcount : min (s.line.errors + 1) maxTransmitErrors = s.line.errors + 1 :=
    Nat.min_eq_left (show s.line.errors + 1 ≤ 8 by omega)
  rw [transmitError, if_pos h, hcount]
  exact if_neg (show s.line.errors + 1 ≠ 8 by omega)

/-- The eighth transmit error running ends the transmitter (R160). -/
theorem transmitError_of_many (h : s.line.tx.isSending = true) (herrors : 7 ≤ s.line.errors) :
    transmitError s =
      report .lineFault
        { s with
          line :=
            { s.line with errors := 8, tx := .disabled, queue := [], rxWaitsIdle := true } } := by
  have hcount : min (s.line.errors + 1) maxTransmitErrors = maxTransmitErrors :=
    Nat.min_eq_right (show 8 ≤ s.line.errors + 1 by omega)
  rw [transmitError, if_pos h, hcount]
  exact if_pos rfl

end

/-- Settles O38: the four ends of an attempt. -/
theorem attemptOutcomes : Obligations.AttemptOutcomes := by
  unfold Obligations.AttemptOutcomes
  intro s hfree
  exact ⟨fun frame before q after htx hqueue hq hbefore =>
      exec_of_free hfree rfl (attemptSucceeds_of_command htx hqueue hq hbefore),
    fun frame refilled htx => exec_of_free hfree rfl (attemptSucceeds_of_status htx),
    fun hsending => ⟨exec_of_free hfree rfl (loseArbitration_of_sending hsending),
      fun hfew => exec_of_free hfree rfl (transmitError_of_few hsending hfew),
      fun hmany => exec_of_free hfree rfl (transmitError_of_many hsending hmany)⟩⟩

/-! ### Receiving (R163 to R165) -/

theorem groupPasses_iff (s : State) (group : BitVec 4) :
    groupPasses s group = true ↔
      ∃ c, s.store.active = some c ∧ group = c.fields.group.setWidth 4 := by
  unfold groupPasses
  cases s.store.active <;> simp [ConfigValues.groupNo]

theorem isOwnStation_iff (s : State) (station : BitVec 6) :
    isOwnStation s station = true ↔
      station = s.store.station ∧ isColumnStation s.store.station = true := by
  rw [isOwnStation, Bool.and_eq_true, beq_iff_eq, and_comm]

theorem servicePasses_iff (s : State) (station : BitVec 6) (group : BitVec 4) (target : BitVec 6)
    (toAll : Bool) :
    servicePasses s station group target toAll = true ↔
      station = 0#6 ∧
        ((target = s.store.station ∧ isColumnStation s.store.station = true) ∨
          (toAll = true ∧ target = 63#6)) ∧
        ((∃ c, s.store.active = some c ∧ group = c.fields.group.setWidth 4) ∨
          (group = 0#4 ∧ s.phases.phase = .unconfigured)) := by
  simp only [servicePasses, Bool.and_eq_true, Bool.or_eq_true, beq_iff_eq, groupPasses_iff,
    and_assoc]

section
variable {s : State} {bytes : List Byte} {framingError startedAtIdle : Bool}

theorem receiveFrame_of_sending (h : s.line.tx.isSending = true) :
    receiveFrame bytes framingError startedAtIdle s = s := if_pos h

/-- A frame that was missed or is not good only ends the wait for the idle line (log 9). -/
theorem receiveFrame_of_lost (h : s.line.tx.isSending = false)
    (hlost : s.line.rxWaitsIdle = true ∧ startedAtIdle = false ∨
      goodFrame bytes framingError = none) :
    receiveFrame bytes framingError startedAtIdle s =
      { s with line := { s.line with rxWaitsIdle := false } } := by
  rw [receiveFrame, if_neg (Bool.eq_false_iff.1 h)]
  rcases hlost with ⟨hwaits, hlate⟩ | hbad
  · exact if_pos (by rw [hwaits, hlate]; rfl)
  · rw [hbad]
    exact ite_self _

theorem receiveFrame_of_good (h : s.line.tx.isSending = false) {f : LineFrame}
    (hgood : goodFrame bytes framingError = some f)
    (hheard : s.line.rxWaitsIdle = false ∨ startedAtIdle = true) :
    receiveFrame bytes framingError startedAtIdle s =
      filterFrame f { s with line := { s.line with rxWaitsIdle := false } } := by
  rw [receiveFrame, if_neg (Bool.eq_false_iff.1 h), hgood]
  exact if_neg (by rcases hheard with hheard | hheard <;> simp [hheard])

end

theorem filterFrame_of_status {f : LineFrame} {fields : StatusFields}
    (hbody : f.body = .status fields) (u : State) :
    filterFrame f u =
      if !groupPasses u f.group then u
      else if isOwnStation u f.station then report .duplicateStation u
      else arriveFrame (.status f.station fields) u := by
  unfold filterFrame
  rw [hbody]

theorem filterFrame_of_command {f : LineFrame} {kind : BitVec 4} {arg : Word}
    (hbody : f.body = .command kind arg) (u : State) :
    filterFrame f u =
      if groupPasses u f.group then arriveFrame (.command f.station kind arg) u else u := by
  unfold filterFrame
  rw [hbody]

/-- What is left of a service frame's body at the receive queue (R166). -/
theorem filterFrame_of_service {f : LineFrame} {target : BitVec 6} {frame : RxFrame}
    (hbody : (∃ id value, f.body = .configWrite target id value ∧ frame = .configWrite id value) ∨
      (∃ value, f.body = .tolWrite target value ∧ frame = .tolWrite value) ∨
      (f.body = .commit target ∧ frame = .commit) ∨ (f.body = .restart target ∧ frame = .restart) ∨
      (f.body = .closeSetup target ∧ frame = .closeSetup)) (u : State) :
    filterFrame f u =
      if servicePasses u f.station f.group target (decide (f.body = .closeSetup target)) then
        arriveFrame frame u
      else u := by
  unfold filterFrame
  rcases hbody with ⟨id, value, hb, rfl⟩ | ⟨value, hb, rfl⟩ | ⟨hb, rfl⟩ | ⟨hb, rfl⟩ | ⟨hb, rfl⟩ <;>
    simp [hb]

/-- Settles O35: the receiver takes the frame or not, and a good frame is filtered by its body. -/
theorem framesAreFiltered : Obligations.FramesAreFiltered := by
  unfold Obligations.FramesAreFiltered
  intro s bytes framingError startedAtIdle hfree
  have hexec {t : State} : receiveFrame bytes framingError startedAtIdle s = t →
      exec (.frameReceived bytes framingError startedAtIdle) s = .next t :=
    exec_of_free hfree rfl
  refine ⟨fun h => hexec (receiveFrame_of_sending h), fun u hu hsilent => ?_⟩
  have hstore : u.store = s.store := by rw [hu]
  have hphases : u.phases = s.phases := by rw [hu]
  refine ⟨fun hlost => hexec ((receiveFrame_of_lost hsilent hlost).trans hu.symm),
    fun f hgood hheard => ?_⟩
  have htaken {t : State} (ht : filterFrame f u = t) :
      exec (.frameReceived bytes framingError startedAtIdle) s = .next t :=
    hexec ((receiveFrame_of_good hsilent hgood hheard).trans (hu ▸ ht))
  have hpass : groupPasses u f.group = true ↔
      ∃ c, s.store.active = some c ∧ f.group = c.fields.group.setWidth 4 :=
    hstore ▸ groupPasses_iff u f.group
  have hown : isOwnStation u f.station = true ↔
      f.station = s.store.station ∧ isColumnStation s.store.station = true :=
    hstore ▸ isOwnStation_iff u f.station
  have hother (hgroup : ∀ c, s.store.active = some c → f.group ≠ c.fields.group.setWidth 4) :
      ¬groupPasses u f.group = true := fun h => by
    obtain ⟨c, hc, heq⟩ := hpass.1 h
    exact hgroup c hc heq
  refine ⟨fun fields hbody => ?_, fun kind arg hbody => ?_, fun target frame hbody taken hiff => ?_⟩
  · rw [filterFrame_of_status hbody] at htaken
    refine ⟨fun hgroup => htaken (if_pos ?_), fun c hc hgroup => ?_⟩
    · rw [Bool.not_eq_true']
      exact Bool.eq_false_iff.2 (hother hgroup)
    · rw [hpass.2 ⟨c, hc, hgroup⟩, Bool.not_true, if_neg Bool.false_ne_true] at htaken
      refine ⟨fun hstation hstrap => htaken (if_pos (hown.2 ⟨hstation, hstrap⟩)),
        fun hstation => htaken (if_neg fun h => ?_)⟩
      obtain ⟨hsame, hstrap⟩ := hown.1 h
      rcases hstation with hne | hno
      · exact hne hsame
      · exact Bool.false_ne_true (hno.symm.trans hstrap)
  · rw [filterFrame_of_command hbody] at htaken
    exact ⟨fun hgroup => htaken (if_neg (hother hgroup)),
      fun c hc hgroup => htaken (if_pos (hpass.2 ⟨c, hc, hgroup⟩))⟩
  · refine htaken ((filterFrame_of_service hbody u).trans (if_congr ?_ rfl rfl))
    rw [servicePasses_iff, hiff, hstore, hphases, decide_eq_true_iff]

end Sys2Proof.Machine

namespace Sys2Proof.Machine

/-! ### Payloads laid out and read back (R153, R154)

The widths stand in the types as sums; they are left so, or no lemma about a concatenation would see
them. -/

/-- The ten bytes of eighty bits give them back. -/
theorem append_bytes80 (p : BitVec 80) :
    p.extractLsb' 72 8 ++ p.extractLsb' 64 8 ++ p.extractLsb' 56 8 ++ p.extractLsb' 48 8 ++
      p.extractLsb' 40 8 ++ p.extractLsb' 32 8 ++ p.extractLsb' 24 8 ++ p.extractLsb' 16 8 ++
      p.extractLsb' 8 8 ++ p.extractLsb' 0 8 = p := by
  simp (disch := rfl) only [BitVec.extractLsb'_append_extractLsb'_eq_extractLsb', -Nat.reduceAdd]
  exact BitVec.extractLsb'_eq_self

theorem append_bytes32 (p : BitVec 32) :
    p.extractLsb' 24 8 ++ p.extractLsb' 16 8 ++ p.extractLsb' 8 8 ++ p.extractLsb' 0 8 = p := by
  simp (disch := rfl) only [BitVec.extractLsb'_append_extractLsb'_eq_extractLsb', -Nat.reduceAdd]
  exact BitVec.extractLsb'_eq_self

/-- Every field is read from where it was laid, whatever the unused bits (R153). -/
theorem ofBits_onLine (f : StatusFields) (unused : BitVec 5) :
    StatusFields.ofBits (f.onLine unused) = f := by
  unfold StatusFields.ofBits StatusFields.onLine
  simp (disch := decide) only [BitVec.extractLsb'_append_eq_of_le,
    BitVec.extractLsb'_append_eq_of_add_le, BitVec.extractLsb'_eq_self, BitVec.getLsbD_append,
    BitVec.getLsbD_ofBool, Nat.reduceSub, Nat.reduceLT, reduceIte, decide_true, Bool.true_and,
    -Nat.reduceAdd]

/-! What the other payloads are read to, by the bits of their bytes (R154). -/

theorem decodeBody_command (p : BitVec 32) :
    decodeBody .command (bytes32 p) =
      some (.command (p.extractLsb' 28 4) (p.extractLsb' 12 16)) := by
  simp only [decodeBody, bytes32, append_bytes32]

theorem decodeBody_configWrite (p : BitVec 32) :
    decodeBody .configWrite (bytes32 p) =
      some (.configWrite (p.extractLsb' 26 6) (p.extractLsb' 18 8) (p.extractLsb' 2 16)) := by
  simp only [decodeBody, bytes32, append_bytes32]

/-- The kind of frame that carries a body (R151). -/
def FrameBody.kind : FrameBody → FrameKind
  | .status _ => .status
  | .command _ _ => .command
  | .configWrite _ _ _ => .configWrite
  | .tolWrite _ _ => .tolWrite
  | .commit _ => .commit
  | .restart _ => .restart
  | .closeSetup _ => .closeSetup

theorem FrameBody.row_code (body : FrameBody) : body.row.1 = body.kind.code := by
  cases body <;> rfl

theorem FrameBody.row_payloadBytes (body : FrameBody) :
    body.row.2.1 = body.kind.payloadBytes := by
  cases body <;> rfl

theorem FrameBody.mem_row_priorities (body : FrameBody) (priority : BitVec 2) :
    priority ∈ body.row.2.2 ↔ body.kind.suits priority = true := by
  cases body <;> simp [FrameBody.row, FrameBody.kind, FrameKind.suits]

/-- A TOL_WRITE payload is the first three of the four bytes its bits fill with a last one. -/
theorem tolWrite_payload {target : BitVec 6} {value : Word} {payload : List Byte}
    (h : (FrameBody.tolWrite target value).laidOut payload) :
    ∃ (spare : BitVec 2) (b2 b3 b4 : Byte),
      payload = [b2, b3, b4] ∧ b2 ++ b3 ++ b4 = target ++ value ++ spare := by
  obtain ⟨spare, last, hbytes⟩ := h
  have hpayload := List.append_inj_left' (s₁ := [_, _, _]) (t₁ := [_]) hbytes rfl
  refine ⟨spare, _, _, _, hpayload.symm, ?_⟩
  simp (disch := rfl) only [BitVec.extractLsb'_append_extractLsb'_eq_extractLsb', -Nat.reduceAdd]
  exact BitVec.extractLsb'_append_eq_left

theorem length_of_laidOut {body : FrameBody} {payload : List Byte} (h : body.laidOut payload) :
    payload.length = body.kind.payloadBytes := by
  cases body with
  | tolWrite target value =>
    obtain ⟨-, b2, b3, b4, rfl, -⟩ := tolWrite_payload h
    rfl
  | _ =>
    obtain ⟨_, rfl⟩ := h
    rfl

theorem decodeBody_of_laidOut {body : FrameBody} {payload : List Byte} (h : body.laidOut payload) :
    decodeBody body.kind payload = some body := by
  cases body with
  | status f =>
    obtain ⟨unused, rfl⟩ := h
    simp only [FrameBody.kind, bytes80, decodeBody, append_bytes80, ofBits_onLine]
  | command kind arg =>
    obtain ⟨spare, rfl⟩ := h
    refine (decodeBody_command _).trans ?_
    simp (disch := decide) only [BitVec.extractLsb'_append_eq_of_le,
      BitVec.extractLsb'_append_eq_of_add_le, BitVec.extractLsb'_eq_self, Nat.reduceSub,
      -Nat.reduceAdd]
  | configWrite target id value =>
    obtain ⟨spare, rfl⟩ := h
    refine (decodeBody_configWrite _).trans ?_
    simp (disch := decide) only [BitVec.extractLsb'_append_eq_of_le,
      BitVec.extractLsb'_append_eq_of_add_le, BitVec.extractLsb'_eq_self, Nat.reduceSub,
      -Nat.reduceAdd]
  | tolWrite target value =>
    obtain ⟨spare, b2, b3, b4, rfl, hbits⟩ := tolWrite_payload h
    simp (disch := decide) only [FrameBody.kind, decodeBody, hbits,
      BitVec.extractLsb'_append_eq_of_le, BitVec.extractLsb'_append_eq_of_add_le,
      BitVec.extractLsb'_eq_self, Nat.reduceSub, -Nat.reduceAdd]
  | commit target =>
    obtain ⟨spare, rfl⟩ := h
    exact congrArg (some ∘ FrameBody.commit) BitVec.extractLsb'_append_eq_left
  | restart target =>
    obtain ⟨spare, rfl⟩ := h
    exact congrArg (some ∘ FrameBody.restart) BitVec.extractLsb'_append_eq_left
  | closeSetup target =>
    obtain ⟨spare, rfl⟩ := h
    exact congrArg (some ∘ FrameBody.closeSetup) BitVec.extractLsb'_append_eq_left

/-! ### The receiver's checks (R163) -/

theorem FrameKind.ofCode_code (k : FrameKind) : FrameKind.ofCode k.code = some k := by
  cases k <;> rfl

/-- The undefined codes name no kind (R151). -/
theorem FrameKind.ofCode_of_undefined {code : BitVec 4}
    (h : code ∉ [1#4, 2#4, 8#4, 9#4, 10#4, 11#4, 12#4]) : FrameKind.ofCode code = none := by
  revert code
  decide

theorem goodFrame_of_short {bytes : List Byte} {framingError : Bool}
    (h : framingError = true ∨ bytes.length < 5) : goodFrame bytes framingError = none :=
  if_pos (by simpa using h)

/-- Two bytes give back their value. -/
theorem wordBytes_inj {v w : Word} : wordBytes v = wordBytes w ↔ v = w := by
  refine ⟨fun h => ?_, congrArg wordBytes⟩
  have hjoin (x : Word) : x.extractLsb' 8 8 ++ x.extractLsb' 0 8 = x :=
    (BitVec.extractLsb'_append_extractLsb'_eq_extractLsb' rfl).trans BitVec.extractLsb'_eq_self
  simp only [wordBytes, List.cons.injEq, and_true] at h
  obtain ⟨hhigh, hlow⟩ := h
  rw [← hjoin v, ← hjoin w, hhigh, hlow]

theorem length_append_wordBytes (covered : List Byte) (check : Word) :
    (covered ++ wordBytes check).length - 2 = covered.length := by
  simp [wordBytes]

/-- Check bytes that are not the CRC over what is before them are refused. -/
theorem goodFrame_of_badCheck {covered : List Byte} {check : Word} (h : check ≠ crc16 covered) :
    goodFrame (covered ++ wordBytes check) false = none := by
  simp only [goodFrame, length_append_wordBytes, List.take_left, List.drop_left]
  simp [wordBytes_inj, h]

section
variable {priority : BitVec 2} {station : BitVec 6} {code group : BitVec 4} {payload : List Byte}

theorem goodFrame_of_noKind (hk : FrameKind.ofCode code = none) :
    goodFrame (buildFrame priority station code group payload) false = none := by
  unfold buildFrame goodFrame
  dsimp only
  rw [length_append_wordBytes]
  simp [kindByte, hk]

/-- A payload of another length, or a priority that does not suit, is refused. -/
theorem goodFrame_of_badKind {k : FrameKind} (hk : FrameKind.ofCode code = some k)
    (h : payload.length ≠ k.payloadBytes ∨ ¬k.suits priority = true) :
    goodFrame (buildFrame priority station code group payload) false = none := by
  unfold buildFrame goodFrame
  dsimp only
  rw [length_append_wordBytes]
  by_cases hl : payload.length = k.payloadBytes
  · simp [kindByte, arbitrationByte, hk, hl, h.resolve_left (not_not_intro hl)]
  · simp [wordBytes, kindByte, hk, hl, FrameKind.totalBytes]

/-- A frame whose payload lays out a body, under a priority that suits, gives the body back. -/
theorem goodFrame_of_laidOut {body : FrameBody} (hs : body.kind.suits priority = true)
    (hbody : body.laidOut payload) :
    goodFrame (buildFrame priority station body.kind.code group payload) false =
      some { priority := priority, station := station, group := group, body := body } := by
  rw [goodFrame_buildFrame body.kind.ofCode_code (length_of_laidOut hbody) hs,
    decodeBody_of_laidOut hbody]
  rfl

end

/-- Settles O52: each check refuses what it is for, and what passes them all is read back. -/
theorem frameChecksInOrder : Obligations.FrameChecksInOrder := by
  unfold Obligations.FrameChecksInOrder
  refine ⟨fun bytes framingError h => goodFrame_of_short h, ?_⟩
  rintro priority station code group payload check covered - rfl
  refine ⟨rfl, goodFrame_of_badCheck,
    fun h => goodFrame_of_noKind (FrameKind.ofCode_of_undefined h), fun body hcode => ?_⟩
  obtain rfl := hcode.trans body.row_code
  rw [body.row_payloadBytes, body.mem_row_priorities]
  exact ⟨goodFrame_of_badKind body.kind.ofCode_code, goodFrame_of_laidOut⟩

/-- Settles O51: a COMMAND and a STATUS payload lay out their bodies with their spare bits 0. -/
theorem framesRoundTrip : Obligations.FramesRoundTrip := by
  unfold Obligations.FramesRoundTrip
  refine ⟨fun station group kind arg => ?_, fun station group fields => ?_⟩
  · have hsuits : FrameKind.command.suits (commandPriority kind) = true := by
      cases kind <;> rfl
    have hlaid : (FrameBody.command kind.code arg).laidOut (bytes32 (commandBits kind.code arg)) :=
      ⟨0#12, rfl⟩
    rw [commandFrameBytes, ← commandPriority_eq]
    exact goodFrame_of_laidOut (body := .command kind.code arg) hsuits hlaid
  · have hlaid : (FrameBody.status fields).laidOut (bytes80 fields.bits) := ⟨0#5, rfl⟩
    rw [statusFrameBytes]
    exact goodFrame_of_laidOut (body := .status fields) rfl hlaid

end Sys2Proof.Machine

/-! ## Configuration and start-up: proofs of the family's statements -/

namespace Sys2Proof.Machine

/-! ### Stepping (log 5, log 8, log 22) -/

/-- Every command but the two of a reset is an effect on the running part. -/
theorem exec_cases (c : Instr) :
    (∃ kind inputs, c = .reset kind inputs) ∨ c = .resetApplied ∨
      ∃ effect : State → State, ∀ s, exec c s = running s effect := by
  cases c with
  | reset kind inputs => exact .inl ⟨kind, inputs, rfl⟩
  | resetApplied => exact .inr (.inl rfl)
  | _ => exact .inr (.inr ⟨_, fun _ => rfl⟩)

/-- Settles O3: a reset answers its state, and every other command an effect that a held part does
not take. -/
theorem everyCommandAnswersNext : Obligations.EveryCommandAnswersNext := by
  unfold Obligations.EveryCommandAnswersNext
  intro c s
  rcases exec_cases c with ⟨kind, inputs, rfl⟩ | rfl | ⟨effect, heffect⟩
  · exact ⟨⟨_, rfl⟩, fun _ hreset _ => absurd rfl (hreset kind inputs)⟩
  · exact ⟨⟨_, rfl⟩, fun _ _ happlied => absurd rfl happlied⟩
  · exact ⟨⟨_, heffect s⟩, fun hheld _ _ => (heffect s).trans (running_of_held hheld)⟩

theorem timerDue_iff (t : Timer) : timerDue t = true ↔ t = some 0 := beq_iff_eq

/-- An expiry is due exactly while its timer stands at 0. -/
theorem mem_dueExpiries (c : Instr) (s : State) :
    c ∈ dueExpiries s ↔
      (c = .silenceScanExpiry ∧ s.scanTimer = 0) ∨
      (c = .controlPeriodExpiry ∧ s.sensors.controlTimer = 0) ∨
      (c = .statusTimerExpiry ∧ s.line.statusTimer = 0) ∨
      (c = .dwellExpiry ∧ s.drive.dwellTimer = some 0) ∨
      (c = .settleExpiry ∧ s.drive.settleTimer = some 0) ∨
      (c = .demandTimerExpiry ∧ s.drive.demandTimer = some 0) ∨
      (c = .blinkTimerExpiry ∧ s.pendant.blinkTimer = some 0) ∨
      (c = .windowTimerExpiry ∧ s.store.windowTimer = some 0) ∨
      (c = .commitCompletion ∧ s.store.writeTimer = some 0) := by
  have hguard (p : Prop) [Decidable p] (e : Instr) :
      (c ∈ if p then [e] else []) ↔ c = e ∧ p := by
    split <;> simp [*]
  simp only [dueExpiries, List.mem_append, hguard, timerDue_iff, or_assoc]

theorem dueExpiries_eq_nil_iff (s : State) :
    dueExpiries s = [] ↔
      s.scanTimer ≠ 0 ∧ s.sensors.controlTimer ≠ 0 ∧ s.line.statusTimer ≠ 0 ∧
      s.drive.dwellTimer ≠ some 0 ∧ s.drive.settleTimer ≠ some 0 ∧
      s.drive.demandTimer ≠ some 0 ∧ s.pendant.blinkTimer ≠ some 0 ∧
      s.store.windowTimer ≠ some 0 ∧ s.store.writeTimer ≠ some 0 := by
  simp [dueExpiries, timerDue_iff]

theorem idleStep_of_held {s : State} (h : s.held = true) : idleStep s = s := if_pos h

theorem idleStep_of_noneDue {s : State} (hfree : s.held = false) (h : dueExpiries s = []) :
    idleStep s = passMillisecond s := by
  rw [idleStep, hfree, h]
  rfl

/-- Whichever way the free choice falls, it falls on an expiry that is due. -/
theorem idleStep_of_due {s : State} (hfree : s.held = false) (h : dueExpiries s ≠ []) :
    ∃ c ∈ dueExpiries s, ∃ n, idleStep s = { s with pending := [c], freeCount := n } := by
  rw [idleStep, hfree]
  cases hdue : dueExpiries s with
  | nil => exact absurd hdue h
  | cons c rest =>
    cases rest with
    | nil => exact ⟨c, List.mem_singleton_self c, s.freeCount, rfl⟩
    | cons d rest =>
      have hlt := Nat.mod_lt (Config.firstDue s.freeCount)
        (List.length_pos_of_ne_nil (List.cons_ne_nil c (d :: rest)))
      refine ⟨_, ?_, s.freeCount + 1, rfl⟩
      rw [List.getD_eq_getElem _ _ hlt]
      exact List.getElem_mem hlt

/-- Settles O2: held, with nothing due, and with an expiry due. -/
theorem idleStepLetsTimePass : Obligations.IdleStepLetsTimePass := by
  unfold Obligations.IdleStepLetsTimePass
  intro s hempty
  have hidle : step s = .next (idleStep s) := by rw [step, hempty]
  refine ⟨fun hheld => ?_, fun hfree =>
    ⟨fun hscan hcontrol hstatus hdwell hsettle hdemand hblink hwindow hwrite => ?_,
      fun hzero => ?_⟩⟩
  · rw [hidle, idleStep_of_held hheld]
  · have hnone := (dueExpiries_eq_nil_iff s).2
      ⟨hscan, hcontrol, hstatus, hdwell, hsettle, hdemand, hblink, hwindow, hwrite⟩
    rw [hidle, idleStep_of_noneDue hfree hnone]
    rfl
  · have hdue : dueExpiries s ≠ [] := by
      rw [ne_eq, dueExpiries_eq_nil_iff]
      tauto
    obtain ⟨c, hc, n, hstep⟩ := idleStep_of_due hfree hdue
    exact ⟨c, n, hidle.trans (congrArg _ hstep), (mem_dueExpiries c s).1 hc⟩

end Sys2Proof.Machine

namespace Sys2Proof.Machine

/-! ### The Store after a reset (R171 to R173, R185) -/

/-- A record gives a configuration exactly when digest, ranges and relations hold, and then its own
values with the enables of G0 and G1 forced on (R171). -/
theorem activeOf_eq_some_iff (record : NvRecord) (c : ConfigValues) :
    activeOf record = some c ↔
      ∃ v, record = .written v (recordDigest v) ∧ v.inRanges = true ∧ v.related = true ∧
        c =
          { v with
            fields := { v.fields with guardEnable := v.fields.guardEnable ||| 3#16 } } := by
  cases record with
  | erased => simp [activeOf]
  | broken => simp [activeOf]
  | written v digest =>
    simp only [activeOf, forceGuardEnable, Option.ite_none_right_eq_some, Bool.and_eq_true,
      decide_eq_true_eq, Option.some.injEq, NvRecord.written.injEq]
    constructor
    · rintro ⟨⟨⟨rfl, hrange⟩, hrelated⟩, rfl⟩
      exact ⟨v, ⟨rfl, rfl⟩, hrange, hrelated, rfl⟩
    · rintro ⟨_, ⟨rfl, rfl⟩, hrange, hrelated, rfl⟩
      exact ⟨⟨⟨rfl, hrange⟩, hrelated⟩, rfl⟩

theorem ConfigFields.toList_map {α β : Type} (g : α → β) (f : ConfigFields α) :
    (f.map g).toList = f.toList.map g := rfl

theorem Tolerances.toList_map {α β : Type} (g : α → β) (t : Tolerances α) :
    (t.map g).toList = t.toList.map g := rfl

/-- Without a configuration every field and slot of the staging copy is absent (R173). -/
theorem stagingOf_none_absent :
    (∀ v ∈ (stagingOf none).fields.toList, v = none) ∧
      ∀ v ∈ (stagingOf none).tol.toList, v = none := by
  simp only [stagingOf, ConfigFields.toList_map, Tolerances.toList_map, List.forall_mem_map,
    implies_true, and_self]

/-- Settles O5: the release starts the column with `storeAfterReset` of the record it finds. -/
theorem resetLatchesConfiguration : Obligations.ResetLatchesConfiguration := by
  unfold Obligations.ResetLatchesConfiguration
  intro kind inputs s happlied
  have hrecord : (resetPart kind inputs s).store.record =
      if s.store.commit = .idle then s.store.record else .broken := recordAtReset_eq s
  have hactive : (resetPart kind inputs s).store.active =
      activeOf (resetPart kind inputs s).store.record := rfl
  have hstaging : (resetPart kind inputs s).store.staging =
      stagingOf (resetPart kind inputs s).store.active := rfl
  have hpass : (resetPart kind inputs s).store.passComplete =
      (resetPart kind inputs s).store.active.isSome := rfl
  refine ⟨resetPart kind inputs s, congrArg _ (release_of_last kind inputs happlied), rfl, rfl, rfl,
    fun hidle => hrecord.trans (if_pos hidle), fun hflight => hrecord.trans (if_neg hflight),
    fun c d hwritten hdigest hrange hrelated => ?_, fun c hc => ?_, rfl, fun c hc => ?_,
    fun hnone => ?_, rfl, rfl, rfl, rfl, rfl, rfl⟩
  · subst hdigest
    rw [hactive, activeOf_eq_some_iff]
    exact ⟨c, hwritten, hrange, hrelated, rfl⟩
  · obtain ⟨v, hwritten, hrange, hrelated, -⟩ := (activeOf_eq_some_iff _ c).1 (hactive ▸ hc)
    exact ⟨v, hwritten, hrange, hrelated⟩
  · rw [hstaging, hpass, hc]
    exact ⟨rfl, rfl⟩
  · rw [hstaging, hpass, hnone]
    exact ⟨stagingOf_none_absent.1, stagingOf_none_absent.2, rfl⟩

end Sys2Proof.Machine

namespace Sys2Proof.Machine

/-! ### A service frame handed to the Store (R166, R174) -/

section
variable {s : State} {rest : List RxFrame}

theorem afterHanding_store : (s.afterHanding rest).store = s.store := rfl

theorem handConfigWrite_of_head {id : BitVec 8} {value : Word} (hid : id ≠ 21#8)
    (hq : s.line.rxQueue = .configWrite id value :: rest) :
    handConfigWrite s = takeService (writeField id.toNat value) (s.afterHanding rest) := by
  rw [handConfigWrite, hq]
  exact if_neg hid

theorem handTolRewind_of_head {value : Word}
    (hq : s.line.rxQueue = .configWrite 21#8 value :: rest) :
    handTolRewind s = takeService rewind (s.afterHanding rest) := by
  rw [handTolRewind, hq]
  exact if_pos rfl

theorem handTolWrite_of_head {value : Word} (hq : s.line.rxQueue = .tolWrite value :: rest) :
    handTolWrite s = takeService (writeTolerance value) (s.afterHanding rest) := by
  rw [handTolWrite, hq]
  rfl

theorem handCommit_of_head (hq : s.line.rxQueue = .commit :: rest) :
    handCommit s = takeService startCommit (s.afterHanding rest) := by
  rw [handCommit, hq]
  rfl

theorem handRestart_of_head (hq : s.line.rxQueue = .restart :: rest) (inputs : SampledInputs) :
    handRestart inputs s = takeService (resetPart .service inputs) (s.afterHanding rest) := by
  rw [handRestart, hq]
  rfl

/-- A service frame's command leads to the tests of R174, whatever it does once past them. -/
theorem exec_serviceCommand (hfree : s.held = false) {inputs : SampledInputs} {frame : RxFrame}
    {c : Instr} (hq : s.line.rxQueue = frame :: rest) (hc : serviceCommand inputs frame = some c) :
    ∃ accept, exec c s = .next (takeService accept (s.afterHanding rest)) := by
  cases frame with
  | configWrite id value =>
    obtain rfl := Option.some.inj hc
    by_cases hid : id = 21#8
    · subst hid
      exact ⟨_, exec_of_free hfree rfl (handTolRewind_of_head hq)⟩
    · rw [if_neg hid]
      exact ⟨_, exec_of_free hfree rfl (handConfigWrite_of_head hid hq)⟩
  | tolWrite value =>
    obtain rfl := Option.some.inj hc
    exact ⟨_, exec_of_free hfree rfl (handTolWrite_of_head hq)⟩
  | commit =>
    obtain rfl := Option.some.inj hc
    exact ⟨_, exec_of_free hfree rfl (handCommit_of_head hq)⟩
  | restart =>
    obtain rfl := Option.some.inj hc
    exact ⟨_, exec_of_free hfree rfl (handRestart_of_head hq inputs)⟩
  | status station fields => cases hc
  | command station kind arg => cases hc
  | closeSetup => cases hc

/-! The three tests. -/

theorem serviceRefusal_of_closed (h : s.store.windowOpen = false) :
    serviceRefusal s = some .refusedClosed := by
  simp [serviceRefusal, h]

theorem serviceRefusal_of_protected {v : ConfigValues} (hopen : s.store.windowOpen = true)
    (hstrap : s.store.setupStrap = false) (hactive : s.store.active = some v)
    (hprotect : v.fields.protect ≠ 0#16) : serviceRefusal s = some .refusedProtected := by
  simp [serviceRefusal, hopen, hstrap, hactive, hprotect]

theorem serviceRefusal_of_inFlight (hopen : s.store.windowOpen = true)
    (hprotect : s.store.setupStrap = true ∨
      ∀ v, s.store.active = some v → v.fields.protect = 0#16)
    (hflight : s.store.commit ≠ .idle) : serviceRefusal s = some .busy := by
  cases hcommit : s.store.commit with
  | idle => exact absurd hcommit hflight
  | inFlight values =>
    rcases hprotect with hstrap | hzero
    · simp [serviceRefusal, hopen, hstrap, hcommit]
    · cases hactive : s.store.active with
      | none => simp [serviceRefusal, hopen, hactive, hcommit]
      | some v => simp [serviceRefusal, hopen, hactive, hzero v hactive, hcommit]

/-- A refusal writes its result and nothing else. -/
theorem takeService_of_refused {result : ConfigResult} (h : serviceRefusal s = some result)
    (accept : State → State) :
    takeService accept s = { s with store := { s.store with result := result } } := by
  rw [takeService, h]
  rfl

end

/-- Settles O47: each test that fails gives the refusal of `serviceRefusal`. -/
theorem serviceTestsInOrder : Obligations.ServiceTestsInOrder := by
  unfold Obligations.ServiceTestsInOrder
  intro s inputs frame rest c hfree hq hc
  obtain ⟨accept, hexec⟩ := exec_serviceCommand hfree hq hc
  have hrefused {result : ConfigResult} (h : serviceRefusal (s.afterHanding rest) = some result) :
      exec c s =
        .next { (s.afterHanding rest) with store := { s.store with result := result } } :=
    hexec.trans (congrArg _ (takeService_of_refused h accept))
  exact ⟨fun hclosed => hrefused (serviceRefusal_of_closed hclosed),
    fun v hopen hstrap hactive hprotect =>
      hrefused (serviceRefusal_of_protected hopen hstrap hactive hprotect),
    fun hopen hprotect hflight =>
      hrefused (serviceRefusal_of_inFlight hopen hprotect hflight)⟩

/-- Settles O7: past its tests a RESTART is `resetPart`, as the release of the only reset is. -/
theorem restartIsServiceReset : Obligations.RestartIsServiceReset := by
  unfold Obligations.RestartIsServiceReset
  intro s inputs rest hfree hq hopen
  have hnone : s.resetsApplied = 0 := by simpa [State.held] using hfree
  have htx : (resetPart .service inputs s).line.tx ≠ .waiting := by
    simp only [resetPart]
    split <;> exact TxState.noConfusion
  exact ⟨resetPart .service inputs s,
    exec_of_free hfree rfl
      ((handRestart_of_head hq inputs).trans (takeService_of_open hopen rest _)),
    congrArg _ (release_of_last .service inputs (by omega)), rfl, rfl, htx⟩

end Sys2Proof.Machine

namespace Sys2Proof.Machine

/-! ### Staging (R175, R176) -/

theorem inRange_iff (v : Word) (r : Nat × Nat) :
    inRange v r = true ↔ r.1 ≤ v.toNat ∧ v.toNat ≤ r.2 := by
  simp [inRange]

theorem inRange_eq_false_iff (v : Word) (r : Nat × Nat) :
    inRange v r = false ↔ v.toNat < r.1 ∨ r.2 < v.toNat := by
  rw [← Bool.not_eq_true, inRange_iff]
  omega

/-- The field of id `n + 1` stands at index `n` of the fields (R170). -/
theorem ConfigFields.toList_setId {α : Type} (f : ConfigFields α) {n : Nat} (h : n < 20) (v : α) :
    (f.setId (n + 1) v).toList = f.toList.set n v := by
  interval_cases n <;> rfl

theorem Tolerances.toList_setSlot {α : Type} (t : Tolerances α) {slot : Nat} (h : slot < 6)
    (v : α) : (t.setSlot slot v).toList = t.toList.set slot v := by
  interval_cases slot <;> rfl

theorem ConfigFields.length_toList {α : Type} (f : ConfigFields α) : f.toList.length = 20 := rfl

theorem Tolerances.length_toList {α : Type} (t : Tolerances α) : t.toList.length = 6 := rfl

/-- Id 0 and the ids above the twenty fields and the rewind name no field (R175). -/
theorem fieldRange_of_noField {id : Nat} (h : id = 0 ∨ 22 ≤ id) : fieldRange id = none := by
  rcases h with rfl | h
  · rfl
  · rw [fieldRange, if_neg (by omega),
      List.getElem?_eq_none (by rw [ConfigFields.length_toList]; omega)]

theorem stagedValue_toNat (id : BitVec 8) (value : Word) :
    stagedValue id.toNat value = if id = 16#8 then value ||| 3#16 else value := by
  simp [stagedValue, forceGuardEnable, BitVec.toNat_eq]

section
variable {s : State} {value : Word} {range : Nat × Nat}

theorem writeField_of_noField {id : Nat} (h : fieldRange id = none) :
    writeField id value s = setResult .refusedRange s := by
  rw [writeField, h]

theorem writeField_of_outOfRange {id : Nat} (hrange : fieldRange id = some range)
    (h : value.toNat < range.1 ∨ range.2 < value.toNat) :
    writeField id value s = setResult .refusedRange s := by
  rw [writeField, hrange]
  exact if_neg (Bool.eq_false_iff.1 ((inRange_eq_false_iff value range).2 h))

theorem writeField_of_inRange {id : Nat} (hrange : fieldRange id = some range)
    (hlow : range.1 ≤ value.toNat) (hhigh : value.toNat ≤ range.2) :
    writeField id value s =
      { s with
        store :=
          { s.store with
            staging :=
              { s.store.staging with
                fields := s.store.staging.fields.setId id (some (stagedValue id value)) }
            result := .accepted } } := by
  rw [writeField, hrange]
  exact if_pos ((inRange_iff value range).2 ⟨hlow, hhigh⟩)

theorem writeTolerance_of_outOfRange (hrange : toleranceRange s.store.tolPointer = some range)
    (h : value.toNat < range.1 ∨ range.2 < value.toNat) :
    writeTolerance value s = setResult .refusedRange s := by
  rw [writeTolerance, hrange]
  exact if_neg (Bool.eq_false_iff.1 ((inRange_eq_false_iff value range).2 h))

theorem writeTolerance_of_inRange (hrange : toleranceRange s.store.tolPointer = some range)
    (hlow : range.1 ≤ value.toNat) (hhigh : value.toNat ≤ range.2) :
    writeTolerance value s =
      { s with
        store :=
          { s.store with
            staging :=
              { s.store.staging with
                tol := s.store.staging.tol.setSlot s.store.tolPointer (some value) }
            passComplete :=
              if s.store.tolPointer = 5 then true
              else if s.store.tolPointer = 0 then false
              else s.store.passComplete
            tolPointer := if s.store.tolPointer = 5 then 0 else s.store.tolPointer + 1
            result := .accepted } } := by
  rw [writeTolerance, hrange]
  exact if_pos ((inRange_iff value range).2 ⟨hlow, hhigh⟩)

end

/-- Settles O48: past the tests the frame is `rewind` or `writeField`, whose field alone takes the
value. -/
theorem configWriteStagesField : Obligations.ConfigWriteStagesField := by
  unfold Obligations.ConfigWriteStagesField
  intro s id value rest hfree hopen hq
  have htaken (hid : id ≠ 21#8) :
      exec .configWrite s = .next (writeField id.toNat value (s.afterHanding rest)) :=
    exec_of_free hfree rfl
      ((handConfigWrite_of_head hid hq).trans (takeService_of_open hopen rest _))
  refine ⟨?_, fun hno => ?_, fun range hid hrange => ?_⟩
  · rintro rfl
    exact exec_of_free hfree rfl
      ((handTolRewind_of_head hq).trans (takeService_of_open hopen rest _))
  · have hnat : id.toNat = 0 ∨ 22 ≤ id.toNat := hno.imp_left fun h => by rw [h]; rfl
    have hne : id ≠ 21#8 := by
      rintro rfl
      revert hnat
      decide
    rw [htaken hne, writeField_of_noField (fieldRange_of_noField hnat)]
    rfl
  · have hpos : id.toNat ≠ 0 := fun h => hid (BitVec.eq_of_toNat_eq h)
    have hlt : id.toNat - 1 < 20 := (List.getElem?_eq_some_iff.1 hrange).1
    have hne : id ≠ 21#8 := by
      rintro rfl
      revert hlt
      decide
    have hfield : fieldRange id.toNat = some range := (if_neg hpos).trans hrange
    refine ⟨fun hout => ?_, fun hlow hhigh => ?_⟩
    · rw [htaken hne, writeField_of_outOfRange hfield hout]
      rfl
    · refine ⟨_, (htaken hne).trans (congrArg _ (writeField_of_inRange hfield hlow hhigh)),
        fun k hk => ?_⟩
      obtain ⟨n, hn⟩ := Nat.exists_eq_succ_of_ne_zero hpos
      have hn20 : n < 20 := by omega
      rw [stagedValue_toNat, afterHanding_store, hn, ConfigFields.toList_setId _ hn20,
        List.getElem?_set, ConfigFields.length_toList, if_pos hn20]
      simp only [Nat.succ_eq_add_one, Nat.add_right_cancel_iff, eq_comm (a := n)]

/-- Settles O49: past the tests the frame is `writeTolerance`, whose slot alone takes the value. -/
theorem tolWriteFillsSlot : Obligations.TolWriteFillsSlot := by
  unfold Obligations.TolWriteFillsSlot
  intro s value rest range hfree hopen hq hrange
  have htaken : exec .tolWrite s = .next (writeTolerance value (s.afterHanding rest)) :=
    exec_of_free hfree rfl ((handTolWrite_of_head hq).trans (takeService_of_open hopen rest _))
  have hlt : s.store.tolPointer < 6 := toleranceRange_lt hrange
  refine ⟨fun hout => ?_, fun hlow hhigh => ?_⟩
  · exact htaken.trans
      (congrArg _ (writeTolerance_of_outOfRange (s := s.afterHanding rest) hrange hout))
  · refine ⟨_, htaken.trans (congrArg _
      (writeTolerance_of_inRange (s := s.afterHanding rest) hrange hlow hhigh)), fun k _ => ?_⟩
    rw [afterHanding_store, Tolerances.toList_setSlot _ hlt, List.getElem?_set,
      Tolerances.length_toList, if_pos hlt]
    simp only [eq_comm (b := k)]

end Sys2Proof.Machine

namespace Sys2Proof.Machine

/-! ### The commit (R179, R180) and the end of the setup (R182) -/

/-- A staging copy with a value in every field and slot holds those values. -/
theorem Staging.values_of_whole (v : ConfigValues) :
    Staging.values { fields := v.fields.map some, tol := v.tol.map some } = some v := rfl

theorem Staging.values_of_absent {g : Staging} (h : none ∈ g.fields.toList ∨ none ∈ g.tol.toList) :
    g.values = none := by
  refine if_neg fun hall => ?_
  rw [Bool.and_eq_true, List.all_eq_true, List.all_eq_true] at hall
  obtain ⟨hfields, htol⟩ := hall
  exact h.elim (fun hn => Bool.noConfusion (hfields none hn))
    fun hn => Bool.noConfusion (htol none hn)

theorem ConfigValues.related_iff (c : ConfigValues) :
    c.related = true ↔
      c.fields.vCreep.toNat ≤ c.fields.vNom.toNat ∧
      c.fields.vNom.toNat ≤ c.fields.vDriveMax.toNat ∧
      c.tol.aLocal.toNat ≤ c.tol.aGroup.toNat ∧ c.tol.wContact.toNat < c.tol.wCapacity.toNat ∧
      c.mask.getLsbD c.fields.line.toNat = true := by
  simp only [ConfigValues.related, ConfigValues.lineNo, Bool.and_eq_true, decide_eq_true_eq,
    and_assoc]

section
variable {s : State}

theorem committable_of_whole {v : ConfigValues} (hvalues : s.store.staging.values = some v)
    (hpass : s.store.passComplete = true) (hrelated : v.related = true) (hmask : v.mask ≠ 0#24) :
    committable s = some v := by
  simp [committable, hvalues, hpass, hrelated, hmask]

theorem committable_of_absent (h : s.store.staging.values = none) : committable s = none := by
  rw [committable, h]

theorem committable_of_openPass (h : s.store.passComplete = false) : committable s = none := by
  unfold committable
  split <;> simp [h]

theorem committable_of_unrelated {v : ConfigValues} (hvalues : s.store.staging.values = some v)
    (h : v.related = false) : committable s = none := by
  simp [committable, hvalues, h]

theorem startCommit_of_committable {v : ConfigValues} (h : committable s = some v) :
    startCommit s =
      { s with
        store :=
          { s.store with
            commit := .inFlight v, writeTimer := some 40, tolPointer := 0
            result := .accepted } } := by
  rw [startCommit, h]
  rfl

theorem startCommit_of_refused (h : committable s = none) :
    startCommit s = setResult .refusedInconsistent s := by
  rw [startCommit, h]

/-- The window closes and its timer stops, whatever they were (R182). -/
theorem closeWindow_eq (s : State) :
    closeWindow s =
      { s with
        store :=
          { s.store with
            windowOpen := false
            windowTimer := if s.store.windowOpen then none else s.store.windowTimer } } := by
  unfold closeWindow
  split
  next => rfl
  next hclosed => rw [← Bool.eq_false_iff.2 hclosed]

theorem handCloseSetup_of_head {rest : List RxFrame} (hq : s.line.rxQueue = .closeSetup :: rest) :
    handCloseSetup s = closeWindow (s.afterHanding rest) := by
  rw [handCloseSetup, hq]
  rfl

theorem completeCommit_of_inFlight {values : ConfigValues}
    (h : s.store.commit = .inFlight values) :
    completeCommit s =
      { s with
        store :=
          { s.store with
            record := .written values (recordDigest values)
            commit := .idle, writeTimer := none, result := .committed } } := by
  rw [completeCommit, h]
  rfl

end

/-- Settles O50: a COMMIT past the tests is `startCommit`, which turns on `committable`; a
CLOSE_SETUP is `closeWindow`. -/
theorem commitAndCloseSetup : Obligations.CommitAndCloseSetup := by
  unfold Obligations.CommitAndCloseSetup
  intro s rest hfree
  refine ⟨fun hq hopen => ?_, fun hq => exec_of_free hfree rfl
    ((handCloseSetup_of_head hq).trans (closeWindow_eq _))⟩
  have htaken : exec .commit s = .next (startCommit (s.afterHanding rest)) :=
    exec_of_free hfree rfl ((handCommit_of_head hq).trans (takeService_of_open hopen rest _))
  have hvalues {v : ConfigValues}
      (h : s.store.staging = { fields := v.fields.map some, tol := v.tol.map some }) :
      s.store.staging.values = some v := by
    rw [h, Staging.values_of_whole]
  refine ⟨fun v hwhole hpass hcreep hdrive hgroup hcapacity hmask hline => ?_, fun hbad => ?_⟩
  · have hrelated := v.related_iff.2 ⟨hcreep, hdrive, hgroup, hcapacity, hline⟩
    exact htaken.trans (congrArg _ (startCommit_of_committable
      (committable_of_whole (s := s.afterHanding rest) (hvalues hwhole) hpass hrelated hmask)))
  · have hrefused : committable (s.afterHanding rest) = none := by
      rcases hbad with hfield | hslot | hpass | ⟨v, hwhole, hbroken⟩
      · exact committable_of_absent (Staging.values_of_absent (.inl hfield))
      · exact committable_of_absent (Staging.values_of_absent (.inr hslot))
      · exact committable_of_openPass hpass
      · refine committable_of_unrelated (hvalues hwhole) (Bool.eq_false_iff.2 fun hrelated => ?_)
        obtain ⟨hcreep, hdrive, hgroup, hcapacity, hline⟩ := v.related_iff.1 hrelated
        rw [hline] at hbroken
        simp only [Bool.true_eq_false, or_false] at hbroken
        omega
    exact htaken.trans (congrArg _ (startCommit_of_refused hrefused))

/-- Settles O15: the write in flight completes. -/
theorem commitCompletionWritesRecord : Obligations.CommitCompletionWritesRecord := by
  unfold Obligations.CommitCompletionWritesRecord
  intro s values hfree hflight
  exact exec_of_free hfree rfl (completeCommit_of_inFlight hflight)

end Sys2Proof.Machine

/-! ## Stepping and the reset state: proofs of the remaining statements -/

namespace Sys2Proof.Machine

/-! ### A waiting command -/

/-- Settles O1: the queue is not empty, so `step` takes its second case. -/
theorem stepRunsFrontCommand : Obligations.StepRunsFrontCommand := by
  unfold Obligations.StepRunsFrontCommand
  intro s c rest hqueue
  calc step s = exec c (s.setPending rest) := by rw [step, hqueue]
    _ = exec c { s with pending := rest } := rfl

/-! ### The reset state

A part with an erased record and an empty queue, just started by a POWER reset, is the same part
again when one is released: what every release establishes holds of `State.reset`. -/

theorem reset_eq_resetPart :
    State.reset = resetPart .power State.resetInputs State.reset := rfl

/-- A column just started has no cause and no origin latched, and is not HALTED (R64, R67). -/
theorem resetPart_haltExact (kind : ResetKind) (inputs : SampledInputs) (s : State) :
    (resetPart kind inputs s).haltExact :=
  haltExact_of_clear (s := resetPart kind inputs s) Phase.noConfusion rfl rfl

/-- A column just started has every queue empty, every counter at 0, and no height, load, target or
mark (R67, R105, R168, R185). -/
theorem resetPart_bounded (kind : ResetKind) (inputs : SampledInputs) (s : State) :
    (resetPart kind inputs s).bounded := by
  simp [State.bounded, resetPart, storeAfterReset, contactSamples, stallSamples]

/-- Settles O53: `State.reset` is a part just released from reset, which meets every invariant. -/
theorem resetStateMeetsInvariants : Obligations.ResetStateMeetsInvariants := by
  unfold Obligations.ResetStateMeetsInvariants
  rw [reset_eq_resetPart]
  generalize ResetKind.power = kind, State.resetInputs = inputs, State.reset = s
  obtain ⟨htable, hconfig⟩ := resetPart_sound kind inputs s
  obtain ⟨hlatches, -⟩ := resetPart_latched kind inputs s
  obtain ⟨hlamps, hflags⟩ := (lit_iff _).1 (resetPart_lit kind inputs s)
  obtain ⟨htx, htimers⟩ := (linedUp_iff _).1 (resetPart_linedUp kind inputs s)
  exact ⟨resetPart_driveSafe kind inputs s, resetPart_haltExact kind inputs s, hconfig, htable,
    resetPart_bounded kind inputs s, hlatches, hlamps, hflags, htimers, htx⟩

end Sys2Proof.Machine
